-- ==== Sys2Proof/Word.lean ====
section
/-! DEFINITION. The words of the model: a byte, a 32-bit word, and a table of a fixed number of like things. -/

namespace Sys2Proof

/-- One byte on the line, in a buffer or in the array. -/
abbrev Byte := BitVec 8

/-- A 32-bit count: a position (signed), a captured, skipped or strobe count. -/
abbrev Word32 := BitVec 32

/-- A fixed number of like things (twelve segments, 48 zones, six slots). -/
structure Table (n : Nat) (α : Type) where
  items : List α
  size : items.length = n
deriving DecidableEq, Repr

namespace Table

/-- Entry `i`. -/
def get {n : Nat} {α : Type} (t : Table n α) (i : Fin n) : α :=
  t.items[i.val]'(by rw [t.size]; exact i.isLt)

/-- The table with entry `i` replaced. -/
def set {n : Nat} {α : Type} (t : Table n α) (i : Fin n) (a : α) : Table n α :=
  ⟨t.items.set i.val a, by rw [List.length_set]; exact t.size⟩

/-- The table whose entry `i` is `f i`. -/
def ofFn {n : Nat} {α : Type} (f : Fin n → α) : Table n α :=
  ⟨List.ofFn f, List.length_ofFn⟩

/-- The table with `a` everywhere. -/
def fill (n : Nat) {α : Type} (a : α) : Table n α :=
  ⟨List.replicate n a, List.length_replicate⟩

/-- Every entry through `f`. -/
def map {n : Nat} {α β : Type} (f : α → β) (t : Table n α) : Table n β :=
  ⟨t.items.map f, by rw [List.length_map]; exact t.size⟩

/-- The table with entry `i` changed by `f`. -/
def modify {n : Nat} {α : Type} (t : Table n α) (i : Fin n) (f : α → α) : Table n α :=
  t.set i (f (t.get i))

/-- The lowest index whose entry passes `p`. -/
def first {n : Nat} {α : Type} (t : Table n α) (p : α → Bool) : Option (Fin n) :=
  (List.finRange n).find? fun i => p (t.get i)

/-- Some entry passes `p`. -/
def any {n : Nat} {α : Type} (t : Table n α) (p : α → Bool) : Bool :=
  t.items.any p

/-- Every entry passes `p`. -/
def all {n : Nat} {α : Type} (t : Table n α) (p : α → Bool) : Bool :=
  t.items.all p

end Table

end Sys2Proof
end

