-- ==== Sys2Proof/Syntax.lean ====
section
/-! DEFINITION. The commands of the part: one constructor for each row of spec/opcode_table.json.

A request row is the request decoder taking one request (R163): its operands are the request's TAG and its BODY bytes as
section 12.2 lays them out, so that every length and every value of a body can be written. -/

namespace Sys2Proof

/-- What the ring's senses show at the mid-strobe point (R43): the current one level commands and the supply at its
sense point, and for each segment its sensed current and its string voltage. Currents share one unit, voltages
another; the comparators use ratios only. -/
structure StrobeSenses where
  currentPerLevel : Nat
  supply : Nat
  current : Table 12 Nat
  string : Table 12 Nat
deriving DecidableEq, Repr

/-- One command of the part (spec/opcode_table.json, in the table's order). -/
inductive Instr where
  | powerOnReset
  | brownout
  | resetInput
  | storeScanComplete
  /-- `bytes`: what arrives at the receiver, no gap limit expiring inside it. -/
  | messageReceived (bytes : List Byte)
  | gapLimitExpiry
  | unknownKind (kind tag : Byte) (body : List Byte)
  | queueMessageStart
  | messageSent
  | tileStart
  | tileMessageSent
  | identify (tag : Byte) (body : List Byte)
  | status (tag : Byte) (body : List Byte)
  | getParam (tag : Byte) (body : List Byte)
  | setParam (tag : Byte) (body : List Byte)
  | clearConditions (tag : Byte) (body : List Byte)
  | reset (tag : Byte) (body : List Byte)
  | runStart (tag : Byte) (body : List Byte)
  | runStop (tag : Byte) (body : List Byte)
  | trigger (tag : Byte) (body : List Byte)
  | single (tag : Byte) (body : List Byte)
  | park (tag : Byte) (body : List Byte)
  | wake (tag : Byte) (body : List Byte)
  | sleep (tag : Byte) (body : List Byte)
  | intervalExpiry
  | silenceExpiry
  | wakeSettleExpiry
  | setPosition (tag : Byte) (body : List Byte)
  /-- The levels of A and B after the change, and the time of the change in whole microseconds. -/
  | quadratureChange (a b : Bool) (time : Nat)
  | speedWindowExpiry
  | stallExpiry
  | segmentEnable (tag : Byte) (body : List Byte)
  | segmentDisable (tag : Byte) (body : List Byte)
  | segmentAdmit (tag : Byte) (body : List Byte)
  | segmentCeiling (tag : Byte) (body : List Byte)
  | segmentReport (tag : Byte) (body : List Byte)
  | strobeRequest
  | exclRelease
  | deferralTimerExpiry
  | midStrobe (senses : StrobeSenses)
  | strobeEnd
  | strobeGuardExpiry
  /-- The converter's code, and for a thermistor channel the whole °C its curve gives for the code. -/
  | scanConversionEnd (code : Nat) (celsius : Int)
  | strobeConversionEnd (code : Nat)
  | monitorReport (tag : Byte) (body : List Byte)
  | sensorFrameStart
  | sensorLine (samples : List (BitVec 10))
  | sensorFrameEnd
  | readoutLimitExpiry
  | balanceHold (tag : Byte) (body : List Byte)
  | balanceRelease (tag : Byte) (body : List Byte)
  | balanceRestart (tag : Byte) (body : List Byte)
  | zoneReport (tag : Byte) (body : List Byte)
  | releaseFrame (tag : Byte) (body : List Byte)
  | slotReport (tag : Byte) (body : List Byte)
  | tileCompletion
  | transferGrant (tag : Byte) (body : List Byte)
  | transferStopKeep (tag : Byte) (body : List Byte)
  | transferStopRelease (tag : Byte) (body : List Byte)
  | loadProfileById (tag : Byte) (body : List Byte)
  | loadProfileByBore (tag : Byte) (body : List Byte)
  /-- `decayed`: the bytes of the area found changed since it was last judged. -/
  | loadEnd (decayed : List Host.Cell)
  | storeStage (tag : Byte) (body : List Byte)
  | storePermit (tag : Byte) (body : List Byte)
  | storeRevoke (tag : Byte) (body : List Byte)
  | storeLockdown (tag : Byte) (body : List Byte)
  | storeCommit (tag : Byte) (body : List Byte)
  | storeErase (tag : Byte) (body : List Byte)
  | storeProtect (tag : Byte) (body : List Byte)
  | storeRead (tag : Byte) (body : List Byte)
  | storeReadEnd
  | storeDirectory (tag : Byte) (body : List Byte)
  /-- `unerased`: the bytes of the area the erase left other than 255. -/
  | erasingEnd (unerased : List Host.Cell)
  /-- `wrong`: the bytes of the area that did not take what was programmed. -/
  | programmingEnd (wrong : List Host.Cell)
  | verifyingEnd
  | suspensionPoint
  | wprotAsserted
  | exclAsserted
  | wprotReleased
  | syncByteReceived
deriving DecidableEq, Repr

end Sys2Proof
end

