-- ==== Sys2Proof/Machine/Types.lean ====
section
/-! DEFINITION. The names the manual gives: part states, run records, segments, zones, frames, banks, profiles, the
store's records, conditions and request kinds, and the code of each name (R173: from the tables of chapter 12, else
counted from 1 in the order the defining rule lists them). -/

namespace Sys2Proof.Machine

/-! ## Run controller (chapter 1) -/

/-- The part states (section 1.1). -/
inductive PartState where
  | startup | ready | running | stopping | parked | dormant | waking
deriving DecidableEq, Repr

/-- R173: counted from 1 in the order of section 1.1. -/
def PartState.code : PartState → Nat
  | .startup => 1 | .ready => 2 | .running => 3 | .stopping => 4 | .parked => 5 | .dormant => 6 | .waking => 7

/-- The trigger mode of a run (R5). -/
inductive RunMode where
  | distance | interval | host
deriving DecidableEq, Repr

/-- RUN_START's mode code (section 12.2). -/
def RunMode.code : RunMode → Nat
  | .distance => 1 | .interval => 2 | .host => 3

/-- R5: a code that is not one of the three names no mode. -/
def RunMode.ofCode : Nat → Option RunMode
  | 1 => some .distance | 2 => some .interval | 3 => some .host | _ => none

/-- What caused a capture (R105). -/
inductive Source where
  | distance | interval | host | single
deriving DecidableEq, Repr

/-- FRAME_READY's trigger source code (section 12.4). -/
def Source.code : Source → Nat
  | .distance => 1 | .interval => 2 | .host => 3 | .single => 4

/-- R7: a first-now trigger has the run's mode as its source. -/
def RunMode.source : RunMode → Source
  | .distance => .distance | .interval => .interval | .host => .host

/-- Why a run ended (R14). -/
inductive EndReason where
  | countReached | hostStop | parked | silence | thermalTrip | supplyLow | strobeOverrun
deriving DecidableEq, Repr

/-- RUN_ENDED's end reason code (section 12.4). -/
def EndReason.code : EndReason → Nat
  | .countReached => 1 | .hostStop => 2 | .parked => 3 | .silence => 4 | .thermalTrip => 5 | .supplyLow => 6
  | .strobeOverrun => 7

/-- Why the part woke (R21). -/
inductive WakeReason where
  | request | motion
deriving DecidableEq, Repr

/-- The run record (R6); end position and end reason are absent while the run is open. -/
structure RunRecord where
  number : Nat
  mode : RunMode
  requested : Nat
  captured : Word32
  skipped : Word32
  startPosition : Word32
  endPosition : Option Word32
  endReason : Option EndReason
deriving DecidableEq, Repr

/-- A trigger: its source and its position (R7). -/
structure Trigger where
  source : Source
  position : Word32
deriving DecidableEq, Repr

/-! ## Travel counter (chapter 2) -/

/-- How the recorded speed was measured (R33). -/
inductive SpeedMethod where
  | window | period | stalled
deriving DecidableEq, Repr

/-- R173: counted from 1 in the order of R33. -/
def SpeedMethod.code : SpeedMethod → Nat
  | .window => 1 | .period => 2 | .stalled => 3

/-- The direction of travel (R33). -/
inductive Direction where
  | forward | reverse | stalled
deriving DecidableEq, Repr

/-- R173: counted from 1 in the order of R33. -/
def Direction.code : Direction → Nat
  | .forward => 1 | .reverse => 2 | .stalled => 3

/-! ## Ring driver (chapters 3 and 4) -/

/-- The state of a segment (R36). -/
inductive SegmentState where
  | enabled | disabled | faulted
deriving DecidableEq, Repr

/-- R173: counted from 1 in the order of R36. -/
def SegmentState.code : SegmentState → Nat
  | .enabled => 1 | .disabled => 2 | .faulted => 3

/-- The health of a segment (R36); `openString` is the manual's OPEN. -/
inductive Health where
  | untested | good | weak | openString | shorted
deriving DecidableEq, Repr

/-- R173: counted from 1 in the order of R36. -/
def Health.code : Health → Nat
  | .untested => 1 | .good => 2 | .weak => 3 | .openString => 4 | .shorted => 5

/-- The outcome of a health sample (R43). -/
inductive Sample where
  | openString | shorted | weak | good
deriving DecidableEq, Repr

/-- A segment record (R36); the effective ceiling is formed whenever it is read (R37). -/
structure Segment where
  state : SegmentState
  health : Health
  hostCeiling : Nat
  lastLevel : Nat
  saturatedLast : Bool
  weakCount : Nat
  faultCount : Nat
  strobeCount : Word32
deriving DecidableEq, Repr

/-- A reason that forbids strobes (section 3.7). -/
inductive LockoutReason where
  | thermal | supply | guard
deriving DecidableEq, Repr

/-- The lockout set (section 3.7): each reason at most once. -/
structure LockoutSet where
  thermal : Bool
  supply : Bool
  guard : Bool
deriving DecidableEq, Repr

/-- What a deferral or a strobe is for (R55): a capture of a slot, or a self-test pulse of a segment. -/
inductive StrobeTarget where
  | capture (slot : Fin 6)
  | selfTest (segment : Fin 12)
deriving DecidableEq, Repr

/-- The deferral record (R55); `timeout` in ms, as read when the deferral began. -/
structure Deferral where
  target : StrobeTarget
  timeout : Nat
deriving DecidableEq, Repr

/-- The strobe record (R55); `duration` is D in µs. -/
structure Strobe where
  target : StrobeTarget
  duration : Nat
  levels : Table 12 Nat
  midPassed : Bool
deriving DecidableEq, Repr

/-! ## Supply monitor (chapter 5) -/

/-- The six channels, in the scan's order (R74). -/
inductive Channel where
  | supply | ringT0 | ringT1 | ringT2 | boardT | ref
deriving DecidableEq, Repr

/-- The place of a channel among the six rest readings (R85: channel order). -/
def Channel.index : Channel → Fin 6
  | .supply => 0 | .ringT0 => 1 | .ringT1 => 2 | .ringT2 => 3 | .boardT => 4 | .ref => 5

/-- R74: the fixed order of the scan, and then SUPPLY again. -/
def Channel.next : Channel → Channel
  | .supply => .ringT0 | .ringT0 => .ringT1 | .ringT1 => .ringT2 | .ringT2 => .boardT | .boardT => .ref
  | .ref => .supply

/-- What a conversion is made for (R73). -/
inductive ConversionKind where
  | scan
  | strobe (slot : Fin 6) (frame : Nat)
deriving DecidableEq, Repr

/-- A conversion in flight (R73); `resolution` in bits. -/
structure Conversion where
  channel : Channel
  kind : ConversionKind
  resolution : Nat
deriving DecidableEq, Repr

/-! ## Balance unit (chapter 6) -/

/-- The balance states (R88). -/
inductive BalanceState where
  | cold | settling | settled | saturated | held
deriving DecidableEq, Repr

/-- R173: counted from 1 in the order of R88. -/
def BalanceState.code : BalanceState → Nat
  | .cold => 1 | .settling => 2 | .settled => 3 | .saturated => 4 | .held => 5

/-- The class of a zone (R91). -/
inductive ZoneClass where
  | unlit | glare | void | normal
deriving DecidableEq, Repr

/-- R173: counted from 1 in the order of R88. -/
def ZoneClass.code : ZoneClass → Nat
  | .unlit => 1 | .glare => 2 | .void => 3 | .normal => 4

/-- A zone record (R88); mean and clipped fraction are absent when the sample count is 0. -/
structure ZoneRecord where
  samples : Nat
  mean : Option Nat
  clipped : Option Nat
  cls : ZoneClass
  target : Nat
  gain : Nat
deriving DecidableEq, Repr

/-- The two table banks (R122). -/
inductive BankId where
  | a | b
deriving DecidableEq, Repr

/-- R173: counted from 1. -/
def BankId.code : BankId → Nat
  | .a => 1 | .b => 2

/-- The bank that is not this one. -/
def BankId.other : BankId → BankId
  | .a => .b | .b => .a

/-- The zone map with its header (R88). -/
structure ZoneMap where
  frame : Nat
  bank : BankId
  profileId : Nat
  zones : Table 48 ZoneRecord
deriving DecidableEq, Repr

/-- The standing of a segment in a verdict (R95). -/
inductive Standing where
  | observed | unobserved | notEnabled
deriving DecidableEq, Repr

/-- R173: counted from 1 in the order of R95. -/
def Standing.code : Standing → Nat
  | .observed => 1 | .unobserved => 2 | .notEnabled => 3

/-- A segment verdict (R95); ratio and clamped are absent for NOT_ENABLED. -/
structure Verdict where
  standing : Standing
  ratio : Option Nat
  clamped : Option Bool
  saturatedLast : Bool
deriving DecidableEq, Repr

/-! ## Profiles and banks (chapter 8) -/

/-- Zone geometry (R122): centre and radii in whole raw pixels, sector offset in degrees. -/
structure Geometry where
  cx : Nat
  cy : Nat
  r1 : Nat
  r2 : Nat
  r3 : Nat
  r4 : Nat
  offset : Nat
deriving DecidableEq, Repr

/-- A source point of the mesh, in sixteenths of a raw pixel (R122). -/
structure MeshPoint where
  x : Int
  y : Int
deriving DecidableEq, Repr

/-- The tables of one profile (R122): `influence` is indexed by zone, then segment. -/
structure Profile where
  geometry : Geometry
  startLevels : Table 12 Nat
  influence : Table 48 (Table 12 Nat)
  shading : Table 48 Nat
  mesh : Table 13 (Table 17 MeshPoint)
deriving DecidableEq, Repr

/-- The bank states (R122). -/
inductive BankState where
  | empty | loading | loaded | current | retiring
deriving DecidableEq, Repr

/-- R173: counted from 1 in the order of R122. -/
def BankState.code : BankState → Nat
  | .empty => 1 | .loading => 2 | .loaded => 3 | .current => 4 | .retiring => 5

/-- A bank record (R122). -/
structure Bank where
  state : BankState
  profileId : Option Nat
  references : Nat
  contents : Option Profile
deriving DecidableEq, Repr

/-! ## Frames (chapter 7) -/

/-- The frame flags (R105). -/
structure FrameFlags where
  cut : Bool
  saturated : Bool
  speedLimited : Bool
  segmentFaulted : Bool
  droop : Bool
  deferred : Bool
  partialPicture : Bool
  unsettled : Bool
  defaultProfile : Bool
deriving DecidableEq, Repr

/-- The states of a slot that holds a frame (R105); a slot without a frame is FREE. -/
inductive FrameState where
  | armed | exposing | reading | waiting | correcting | ready | sending | held | sent
deriving DecidableEq, Repr

/-- R173: the slot states counted from 1 in the order of R105; FREE is 1. -/
def FrameState.code : FrameState → Nat
  | .armed => 2 | .exposing => 3 | .reading => 4 | .waiting => 5 | .correcting => 6 | .ready => 7 | .sending => 8
  | .held => 9 | .sent => 10

/-- ARMED, EXPOSING and READING: the sensor path (section 1.1). -/
def FrameState.onSensorPath : FrameState → Bool
  | .armed | .exposing | .reading => true
  | .waiting | .correcting | .ready | .sending | .held | .sent => false

/-- The states in which a slot holds a reference on its bank (R107). -/
def FrameState.referencing : FrameState → Bool
  | .armed | .exposing | .reading | .waiting | .correcting => true
  | .ready | .sending | .held | .sent => false

/-- READY, SENT and HELD: the states RELEASE_FRAME frees, a grant starts from and RECLAIM withdraws (R107, R109). -/
def FrameState.delivered : FrameState → Bool
  | .ready | .held | .sent => true
  | .armed | .exposing | .reading | .waiting | .correcting | .sending => false

/-- What a slot receives at its strobe start (R62). -/
structure StrobeData where
  speed : Nat
  duration : Nat
  levels : Table 12 Nat
deriving DecidableEq, Repr

/-- The statistics of one zone (R113). -/
structure ZoneStat where
  samples : Nat
  sum : Nat
  clipped : Nat
deriving DecidableEq, Repr

/-- A pixel of the finished picture. -/
structure Pixel where
  red : Byte
  green : Byte
  blue : Byte
deriving DecidableEq, Repr

/-- A frame in its slot (R105), with its raw frame (lines from line 0) and its tile store (tiles from tile 0, R128). -/
structure Frame where
  state : FrameState
  number : Nat
  run : Option Nat
  source : Source
  position : Word32
  bank : BankId
  profileId : Nat
  flags : FrameFlags
  strobe : Option StrobeData
  stats : Option (Table 48 ZoneStat)
  gains : Option (Table 48 Nat)
  tilesDone : Nat
  nextUnsent : Nat
  abandon : Bool
  raw : List (List (BitVec 10))
  tiles : List (List Pixel)
deriving DecidableEq, Repr

/-- The sensor port (R111): no slot READING, waiting for frame-start, or receiving with the line count and whether a
line was flagged short or long. -/
inductive Port where
  | idle
  | waiting
  | receiving (lines : Nat) (flagged : Bool)
deriving DecidableEq, Repr

/-- The transfer record (R136). -/
structure Transfer where
  slot : Fin 6
  frame : Nat
  credits : Nat
  onLine : Option Nat
deriving DecidableEq, Repr

/-! ## Profile store (chapter 10) -/

/-- 4,096 bytes, or as many as an area or the staging buffer has: the cells that do not read 255, in rising order. -/
structure Memory where
  cells : List Host.Cell
deriving DecidableEq, Repr

/-- One profile area: its bytes, or the number of the interruption that left it part-erased or part-programmed
(R148). -/
structure Area where
  mem : Memory
  disturbed : Option Nat
deriving DecidableEq, Repr

/-- The fields of a VALID directory entry (R147); the record length is fixed by the format version (R176). -/
structure RecordHeader where
  lens : Nat
  boreMin : Nat
  boreMax : Nat
  label : List Byte
deriving DecidableEq, Repr

/-- A directory entry (R147). -/
inductive DirEntry where
  | empty
  | valid (header : RecordHeader)
  | invalid
  | busy
deriving DecidableEq, Repr

/-- R173: counted from 1 in the order of R147. -/
def DirEntry.code : DirEntry → Nat
  | .empty => 1 | .valid _ => 2 | .invalid => 3 | .busy => 4

/-- The control record as the scan finds it (R148): bit n - 1 of a set stands for area n. -/
inductive Control where
  | erased
  | good (set : BitVec 16)
  | bad
deriving DecidableEq, Repr

/-- The phases of a background operation (R153). -/
inductive Phase where
  | erasing | programming | verifying
deriving DecidableEq, Repr

/-- R173: counted from 1 in the order of R156. -/
def Phase.code : Phase → Nat
  | .erasing => 1 | .programming => 2 | .verifying => 3

/-- Where a suspension stands (R159). -/
inductive Suspension where
  | none | asked | suspended
deriving DecidableEq, Repr

/-- A background operation (R153 to R155); area `i` of a `Fin 16` is area id `i + 1`. -/
inductive OperationKind where
  | commit (area : Fin 16)
  | erase (area : Fin 16)
  | eraseAll (current : Fin 16)
  | protect (set : BitVec 16)
deriving DecidableEq, Repr

/-- R173: counted from 1 in the order of R156; none is 0. -/
def OperationKind.code : OperationKind → Nat
  | .commit _ => 1 | .erase _ => 2 | .eraseAll _ => 3 | .protect _ => 4

/-- The operation in progress (R147, R159); `begun` is no while it waits for the reads before it. -/
structure Operation where
  kind : OperationKind
  phase : Phase
  begun : Bool
  suspension : Suspension
  count : Nat
  tag : Byte
deriving DecidableEq, Repr

/-- The result of a background operation (section 12.4). -/
inductive OperationResult where
  | ok | failed | aborted
deriving DecidableEq, Repr

/-- STORE_DONE's result code (section 12.4). -/
def OperationResult.code : OperationResult → Nat
  | .ok => 1 | .failed => 2 | .aborted => 3

/-- The result of a load (R125). -/
inductive LoadResult where
  | ok | corrupt
deriving DecidableEq, Repr

/-- PROFILE_LOADED's result code (section 12.4). -/
def LoadResult.code : LoadResult → Nat
  | .ok => 1 | .corrupt => 2

/-- The load record (R147). -/
structure LoadRecord where
  profileId : Nat
  bank : BankId
  tag : Byte
deriving DecidableEq, Repr

/-- A read that claims the array (R159). -/
inductive Claim where
  | load | storeRead
deriving DecidableEq, Repr

/-! ## Line interface (chapters 11 and 12) -/

/-- The twenty conditions, in the order of their numbers (section 12.5). -/
inductive Condition where
  | linkCheck | rxOverrun | noticeLost | encoderError | segmentFault | segmentWeak | supplyDroop | supplyLow
  | thermalDerate | thermalTrip | strobeOverrun | exclusionTimeout | speedLimit | balanceSaturated | slotStarved
  | frameReclaimed | sensorFrameError | linkSilence | storeError | captureOverlap
deriving DecidableEq, Repr

/-- Bit n - 1 of a set of conditions stands for condition n (R173). -/
def Condition.bit : Condition → Nat
  | .linkCheck => 0 | .rxOverrun => 1 | .noticeLost => 2 | .encoderError => 3 | .segmentFault => 4
  | .segmentWeak => 5 | .supplyDroop => 6 | .supplyLow => 7 | .thermalDerate => 8 | .thermalTrip => 9
  | .strobeOverrun => 10 | .exclusionTimeout => 11 | .speedLimit => 12 | .balanceSaturated => 13
  | .slotStarved => 14 | .frameReclaimed => 15 | .sensorFrameError => 16 | .linkSilence => 17 | .storeError => 18
  | .captureOverlap => 19

/-- The request kinds, in the order of their codes (section 12.2). -/
inductive RequestKind where
  | identify | status | getParam | setParam | clearConditions | reset | runStart | runStop | trigger | single
  | park | wake | sleep | setPosition | segmentSet | segmentReport | monitorReport | balanceHold
  | balanceRelease | balanceRestart | zoneReport | releaseFrame | slotReport | transferGrant | transferStop
  | loadProfile | storeStage | storePermit | storeRevoke | storeCommit | storeErase | storeProtect
  | storeLockdown | storeRead | storeDirectory
deriving DecidableEq, Repr

/-- The kind codes (section 12.2). -/
def RequestKind.code : RequestKind → Nat
  | .identify => 0x01 | .status => 0x02 | .getParam => 0x03 | .setParam => 0x04 | .clearConditions => 0x05
  | .reset => 0x06 | .runStart => 0x07 | .runStop => 0x08 | .trigger => 0x09 | .single => 0x0A | .park => 0x0B
  | .wake => 0x0C | .sleep => 0x0D | .setPosition => 0x0E | .segmentSet => 0x0F | .segmentReport => 0x10
  | .monitorReport => 0x11 | .balanceHold => 0x12 | .balanceRelease => 0x13 | .balanceRestart => 0x14
  | .zoneReport => 0x15 | .releaseFrame => 0x16 | .slotReport => 0x17 | .transferGrant => 0x18
  | .transferStop => 0x19 | .loadProfile => 0x1A | .storeStage => 0x1B | .storePermit => 0x1C
  | .storeRevoke => 0x1D | .storeCommit => 0x1E | .storeErase => 0x1F | .storeProtect => 0x20
  | .storeLockdown => 0x21 | .storeRead => 0x22 | .storeDirectory => 0x23

/-- The KIND byte of a request (section 12.2). -/
def RequestKind.byte (k : RequestKind) : Byte :=
  BitVec.ofNat 8 k.code

/-- The reasons of a REFUSED reply (R163). -/
inductive Reason where
  | malformed | unknownKind | badValue | busy | wrongState | stale | noProfile | prot | locked | noPermit
  | lockout
deriving DecidableEq, Repr

/-- The reason codes (section 12.3). -/
def Reason.code : Reason → Nat
  | .malformed => 1 | .unknownKind => 2 | .badValue => 3 | .busy => 4 | .wrongState => 5 | .stale => 6
  | .noProfile => 7 | .prot => 8 | .locked => 9 | .noPermit => 10 | .lockout => 11

/-- A good message waiting in the inbound buffer (R162). -/
structure Message where
  kind : Byte
  tag : Byte
  body : List Byte
deriving DecidableEq, Repr

/-- What became of a TRIGGER (R12). -/
inductive TriggerOutcome where
  | served (slot : Fin 6) (frame : Nat)
  | starved
  | pending
  | overlap
  | ignored
deriving DecidableEq, Repr

/-- What became of a RELEASE_FRAME (R117). -/
inductive ReleaseOutcome where
  | freed | abandonPending
deriving DecidableEq, Repr

/-- R175: 1 is FREED and 2 ABANDON_PENDING. -/
def ReleaseOutcome.code : ReleaseOutcome → Nat
  | .freed => 1 | .abandonPending => 2

/-- A segment record as it is reported, with its effective ceiling at the moment of the reply (R47, R51). -/
structure SegmentReport where
  segment : Segment
  effectiveCeiling : Nat
deriving DecidableEq, Repr

/-- What MONITOR_REPORT carries (R85). -/
structure MonitorReport where
  rest : Table 6 (Option Int)
  lastStrobe : Option (Nat × Nat)
  supplyStep : Nat
  droopFree : Nat
  lowStreak : Nat
  ringBudget : Nat
  groups : Table 3 (Nat × Nat)
  resolution : Option Nat
deriving DecidableEq, Repr

/-- What ZONE_REPORT carries (R102). -/
structure ZoneReport where
  state : BalanceState
  settle : Nat
  stale : Option Nat
  energies : Table 12 Nat
  zoneMap : Option ZoneMap
  verdicts : Option (Table 12 Verdict)
deriving DecidableEq, Repr

/-- What SLOT_REPORT carries of a slot that is not FREE (R120). -/
structure SlotSummary where
  state : FrameState
  number : Nat
  run : Option Nat
  source : Source
  position : Word32
  bank : BankId
  profileId : Nat
  flags : FrameFlags
  tilesDone : Nat
  nextUnsent : Nat
  abandon : Bool
  strobe : Option StrobeData
deriving DecidableEq, Repr

/-- What SLOT_REPORT carries (R120). -/
structure SlotReport where
  nextFrame : Nat
  queue : List (Fin 6)
  slots : Table 6 (Option SlotSummary)
deriving DecidableEq, Repr

/-- A bank as STATUS reports it (R169). -/
structure BankReport where
  state : BankState
  profileId : Option Nat
  references : Nat
deriving DecidableEq, Repr

/-- What STATUS carries (R169). -/
structure StatusReport where
  part : PartState
  run : Option RunRecord
  conditions : BitVec 20
  lockout : LockoutSet
  balance : BalanceState
  slots : Table 6 (Option FrameState)
  bankA : BankReport
  bankB : BankReport
  operation : Option (OperationKind × Phase)
  speed : Nat
  method : SpeedMethod
  direction : Direction
  position : Word32
  countdown : Option Nat
  supply : Option Int
  temperatures : Table 4 (Option Int)
deriving DecidableEq, Repr

/-- What STORE_DIRECTORY carries (R156). -/
structure DirectoryReport where
  entries : Table 16 DirEntry
  protectSet : BitVec 16
  lockdown : Bool
  wprot : Bool
  permit : Bool
  operation : Option Operation
  lastResult : Option (OperationResult × Byte)
deriving DecidableEq, Repr

/-- The result fields of a DONE or TAKEN reply (R175: the fields the request's rule names). -/
inductive Result where
  | nothing
  | identity
  | status (r : StatusReport)
  | param (id value : Nat)
  | conditions (set : BitVec 20) (lockout : LockoutSet)
  | runNumber (n : Nat)
  | trigger (o : TriggerOutcome)
  | single (slot : Fin 6) (frame : Nat)
  | position (p : Word32)
  | segment (r : SegmentReport)
  | segments (r : Table 12 SegmentReport)
  | monitor (r : MonitorReport)
  | zones (r : ZoneReport)
  | release (o : ReleaseOutcome)
  | slots (r : SlotReport)
  | grant (credits nextUnsent : Nat)
  | stop (state : Option FrameState) (nextUnsent : Option Nat)
  | load (tag : Byte) (profileId : Nat) (bank : BankId)
  | tag (tag : Byte)
  | data (bytes : List Byte)
  | directory (r : DirectoryReport)
deriving DecidableEq, Repr

/-- The status of a reply (R163), with its result fields or its reason; `unknownKind` carries the kind received
(R175). -/
inductive ReplyBody where
  | done (r : Result)
  | taken (r : Result)
  | refused (r : Reason)
  | unknownKind (kind : Byte)
deriving DecidableEq, Repr

/-- What STATE_CHANGED names as its reason (section 12.4). -/
inductive ChangeReason where
  | startup | request | motion
deriving DecidableEq, Repr

/-- STATE_CHANGED's reason code (section 12.4). -/
def ChangeReason.code : ChangeReason → Nat
  | .startup => 1 | .request => 2 | .motion => 3

/-- The reason a wake is reported with (R21). -/
def WakeReason.change : WakeReason → ChangeReason
  | .request => .request
  | .motion => .motion

/-- What FRAME_READY carries (R119). -/
structure FrameNotice where
  slot : Fin 6
  number : Nat
  run : Option Nat
  source : Source
  position : Word32
  speed : Nat
  duration : Nat
  profileId : Nat
  flags : FrameFlags
deriving DecidableEq, Repr

/-- The notices of the part (R165). -/
inductive Notice where
  | frameReady (n : FrameNotice)
  | frameWithdrawn (slot : Fin 6) (frame : Nat) (former : FrameState) (run : Option Nat)
  | runEnded (record : RunRecord)
  | condition (c : Condition) (set : BitVec 20)
  | stateChanged (part : PartState) (reason : ChangeReason)
  | profileLoaded (tag : Byte) (profileId : Nat) (bank : BankId) (result : LoadResult)
  | storeDone (tag : Byte) (result : OperationResult)
deriving DecidableEq, Repr

/-- A message in the outbound queue (R164): a reply, with its own KIND and its request's TAG, or a notice. -/
inductive OutMessage where
  | reply (kind tag : Byte) (body : ReplyBody)
  | notice (n : Notice)
deriving DecidableEq, Repr

/-- What the request in hand waits for (R163, R170): its rule in the event in progress, a place for its reply, the
stop of a transfer, the service of a read, or the reset. -/
inductive HandWait where
  | handling
  | place (reply : OutMessage)
  | stop (slot : Fin 6) (release : Bool)
  | read (area : Fin 16) (offset length : Nat)
  | reset
deriving DecidableEq, Repr

/-- The request in hand (R163). -/
structure InHand where
  kind : Byte
  tag : Byte
  wait : HandWait
deriving DecidableEq, Repr

/-- The receiver (R161): hunting, or receiving with the bytes gathered after SYNC. -/
inductive Receiver where
  | hunting
  | receiving (bytes : List Byte)
deriving DecidableEq, Repr

/-- The two parties that share the outbound line (R140). -/
inductive Party where
  | queue | tiles
deriving DecidableEq, Repr

/-- What is leaving the line: its party and the bytes of its envelope (R172). -/
structure OnLine where
  party : Party
  bytes : List Byte
deriving DecidableEq, Repr

end Sys2Proof.Machine
end

