-- ==== Sys2Proof/Machine/Memory.lean ====
section
/-! DEFINITION. The staging buffer and the profile areas: byte memory in one canonical form, in which an unlisted
offset reads 255, the erased byte (R147, R150). -/

namespace Sys2Proof.Machine

/-- What an erased byte reads as (R147). -/
def Memory.erasedByte : Byte := 0xFF

/-- Every byte erased. -/
def Memory.erased : Memory := ⟨[]⟩

/-- The byte listed at an offset, or the erased byte. -/
def Memory.readCells : List Host.Cell → Nat → Byte
  | [], _ => Memory.erasedByte
  | c :: cs, a => if c.1 = a then c.2 else Memory.readCells cs a

/-- The byte at an offset. -/
def Memory.read (m : Memory) (a : Nat) : Byte :=
  Memory.readCells m.cells a

/-- A cell in front, unless it holds the erased byte, which the canonical form does not list. -/
def Memory.consCell (a : Nat) (b : Byte) (cs : List Host.Cell) : List Host.Cell :=
  if b = Memory.erasedByte then cs else (a, b) :: cs

/-- One byte written into rising cells. -/
def Memory.writeCells : List Host.Cell → Nat → Byte → List Host.Cell
  | [], a, b => Memory.consCell a b []
  | c :: cs, a, b =>
    if a < c.1 then Memory.consCell a b (c :: cs)
    else if a = c.1 then Memory.consCell a b cs
    else c :: Memory.writeCells cs a b

/-- One byte written. -/
def Memory.write (m : Memory) (a : Nat) (b : Byte) : Memory :=
  ⟨Memory.writeCells m.cells a b⟩

/-- Bytes written at an offset and onward. -/
def Memory.writeRun (m : Memory) : Nat → List Byte → Memory
  | _, [] => m
  | a, b :: bs => (m.write a b).writeRun (a + 1) bs

/-- Cells written one after the other. -/
def Memory.overlay (m : Memory) (cells : List Host.Cell) : Memory :=
  cells.foldl (fun m c => m.write c.1 c.2) m

/-- The bytes from an offset on. -/
def Memory.readRun (m : Memory) (a : Nat) : Nat → List Byte
  | 0 => []
  | n + 1 => m.read a :: m.readRun (a + 1) n

/-- Every byte reads 255. -/
def Memory.isErased (m : Memory) : Bool :=
  m.cells.all fun c => c.2 == Memory.erasedByte

/-- Offsets strictly rising from a bound on, and no cell holding the erased byte. -/
def Memory.rising : Nat → List Host.Cell → Bool
  | _, [] => true
  | low, c :: cs => decide (low ≤ c.1) && (c.2 != Memory.erasedByte) && Memory.rising (c.1 + 1) cs

/-- The canonical form: equal memories are equal data. -/
def Memory.wf (m : Memory) : Bool :=
  Memory.rising 0 m.cells

end Sys2Proof.Machine
end

