-- ==== Sys2Proof/Machine/Params.lean ====
section
/-! DEFINITION. The parameter table of R168: names, ids, ranges, reset values, and the cross-check. -/

namespace Sys2Proof.Machine

/-- The 28 parameters, in the order of their ids (R168). -/
inductive Param where
  | triggerSpacing | interval | countPitch | speedWindow | stallTime | wakeDistance | blurBudget | strobeMax
  | targetRing0 | targetRing1 | targetRing2 | targetRing3 | stepLimit | settleBand | glareFraction | voidLevel
  | checkFraction | shortFraction | thermalDerateStart | thermalTripLevel | supplyLowLevel | droopLevel
  | exclTimeout | silenceTimeout | slotPolicy | autoRelease | adcResolution | noticeMask
deriving DecidableEq, Repr

/-- The place of a parameter in the table: its id less 1 (R168). -/
def Param.index : Param → Fin 28
  | .triggerSpacing => 0 | .interval => 1 | .countPitch => 2 | .speedWindow => 3 | .stallTime => 4
  | .wakeDistance => 5 | .blurBudget => 6 | .strobeMax => 7 | .targetRing0 => 8 | .targetRing1 => 9
  | .targetRing2 => 10 | .targetRing3 => 11 | .stepLimit => 12 | .settleBand => 13 | .glareFraction => 14
  | .voidLevel => 15 | .checkFraction => 16 | .shortFraction => 17 | .thermalDerateStart => 18
  | .thermalTripLevel => 19 | .supplyLowLevel => 20 | .droopLevel => 21 | .exclTimeout => 22
  | .silenceTimeout => 23 | .slotPolicy => 24 | .autoRelease => 25 | .adcResolution => 26 | .noticeMask => 27

/-- The parameter of an id; an id outside 1 to 28 names none (R168). -/
def Param.ofId : Nat → Option Param
  | 1 => some .triggerSpacing | 2 => some .interval | 3 => some .countPitch | 4 => some .speedWindow
  | 5 => some .stallTime | 6 => some .wakeDistance | 7 => some .blurBudget | 8 => some .strobeMax
  | 9 => some .targetRing0 | 10 => some .targetRing1 | 11 => some .targetRing2 | 12 => some .targetRing3
  | 13 => some .stepLimit | 14 => some .settleBand | 15 => some .glareFraction | 16 => some .voidLevel
  | 17 => some .checkFraction | 18 => some .shortFraction | 19 => some .thermalDerateStart
  | 20 => some .thermalTripLevel | 21 => some .supplyLowLevel | 22 => some .droopLevel | 23 => some .exclTimeout
  | 24 => some .silenceTimeout | 25 => some .slotPolicy | 26 => some .autoRelease | 27 => some .adcResolution
  | 28 => some .noticeMask | _ => none

/-- A value inside the parameter's range (R168). SLOT_POLICY is 1 SKIP or 2 RECLAIM, AUTO_RELEASE 0 off or 1 on
(section 12.2), NOTICE_MASK a set of conditions, whose bits 20 to 31 are 0 (R173). -/
def Param.inRange (p : Param) (v : Nat) : Bool :=
  match p with
  | .triggerSpacing => decide (1 ≤ v ∧ v ≤ 65535)
  | .interval => decide (20 ≤ v ∧ v ≤ 10000)
  | .countPitch => decide (10 ≤ v ∧ v ≤ 5000)
  | .speedWindow => decide (10 ≤ v ∧ v ≤ 1000)
  | .stallTime => decide (50 ≤ v ∧ v ≤ 5000)
  | .wakeDistance => decide (1 ≤ v ∧ v ≤ 65535)
  | .blurBudget => decide (20 ≤ v ∧ v ≤ 2000)
  | .strobeMax => decide (20 ≤ v ∧ v ≤ 4000)
  | .targetRing0 => decide (64 ≤ v ∧ v ≤ 960)
  | .targetRing1 => decide (64 ≤ v ∧ v ≤ 960)
  | .targetRing2 => decide (64 ≤ v ∧ v ≤ 960)
  | .targetRing3 => decide (64 ≤ v ∧ v ≤ 960)
  | .stepLimit => decide (5 ≤ v ∧ v ≤ 100)
  | .settleBand => decide (1 ≤ v ∧ v ≤ 20)
  | .glareFraction => decide (1 ≤ v ∧ v ≤ 50)
  | .voidLevel => decide (v ≤ 255)
  | .checkFraction => decide (8 ≤ v ∧ v ≤ 15)
  | .shortFraction => decide (1 ≤ v ∧ v ≤ 6)
  | .thermalDerateStart => decide (40 ≤ v ∧ v ≤ 90)
  | .thermalTripLevel => decide (50 ≤ v ∧ v ≤ 95)
  | .supplyLowLevel => decide (v ≤ 7)
  | .droopLevel => decide (v ≤ 7)
  | .exclTimeout => decide (1 ≤ v ∧ v ≤ 200)
  | .silenceTimeout => decide (v ≤ 600)
  | .slotPolicy => decide (v = 1 ∨ v = 2)
  | .autoRelease => decide (v ≤ 1)
  | .adcResolution => decide (v = 8 ∨ v = 10 ∨ v = 12)
  | .noticeMask => decide (v < 1048576)

/-- The parameter table. -/
abbrev ParamTable := Table 28 Nat

/-- The value of a parameter. -/
def ParamTable.value (t : ParamTable) (p : Param) : Nat :=
  Table.get t p.index

/-- The table with one parameter set. -/
def ParamTable.put (t : ParamTable) (p : Param) (v : Nat) : ParamTable :=
  Table.set t p.index v

/-- The cross-check of R168 on a table: THERMAL_TRIP_LEVEL is at least THERMAL_DERATE_START + 6. -/
def ParamTable.crossCheck (t : ParamTable) : Bool :=
  decide (t.value .thermalDerateStart + 6 ≤ t.value .thermalTripLevel)

/-- R168: a SET_PARAM value is accepted when it lies in the range and keeps the cross-check, which only the two
parameters it names can break. -/
def ParamTable.accepts (t : ParamTable) (p : Param) (v : Nat) : Bool :=
  p.inRange v &&
    (match p with
      | .thermalDerateStart => (t.put p v).crossCheck
      | .thermalTripLevel => (t.put p v).crossCheck
      | _ => true)

/-- The reset values of R168. -/
def ParamTable.resetValues : ParamTable :=
  ⟨[200, 500, 250, 100, 1000, 50, 250, 2000, 448, 512, 512, 512, 25, 3, 12, 40, 12, 3, 70, 80, 2, 1, 20, 30, 1, 0,
    12, 1048575], rfl⟩

/-- Section 12.2: SLOT_POLICY 2 is RECLAIM. -/
def ParamTable.reclaims (t : ParamTable) : Bool :=
  t.value .slotPolicy == 2

/-- Section 12.2: AUTO_RELEASE 1 is on. -/
def ParamTable.autoReleases (t : ParamTable) : Bool :=
  t.value .autoRelease == 1

/-- R92: the target parameter of a ring. -/
def Param.targetOf (ring : Nat) : Param :=
  if ring = 0 then .targetRing0
  else if ring = 1 then .targetRing1
  else if ring = 2 then .targetRing2
  else .targetRing3

end Sys2Proof.Machine
end

