-- ==== Sys2Proof/Machine/Bytes.lean ====
section
/-! DEFINITION. Byte order and the two checks: R173 (least significant byte first), R172 (CRC-16 of the envelope) and
R176 (CRC-32 of the profile record). -/

namespace Sys2Proof.Machine

/-- Little-endian: `n` bytes of a number (R173). -/
def bytesOf : Nat → Nat → List Byte
  | 0, _ => []
  | n + 1, v => BitVec.ofNat 8 v :: bytesOf n (v / 256)

/-- Little-endian: the number some bytes spell (R173). -/
def natOf : List Byte → Nat
  | [] => 0
  | b :: bs => b.toNat + 256 * natOf bs

/-- Two's complement of `n` bytes (R173). -/
def signedBytes (n : Nat) (v : Int) : List Byte :=
  bytesOf n (v % (256 ^ n : Int)).toNat

/-- The signed number some bytes spell (R173). -/
def intOf (bs : List Byte) : Int :=
  if natOf bs < 256 ^ bs.length / 2 then (natOf bs : Int) else (natOf bs : Int) - (256 ^ bs.length : Int)

/-- The bytes of a 32-bit count or position. -/
def wordBytes (w : Word32) : List Byte :=
  bytesOf 4 w.toNat

/-- One bit of the CRC-16: generator polynomial 0x1021, most significant bit first (R172). -/
def crc16Bit (c : BitVec 16) : BitVec 16 :=
  if c.msb then (c <<< 1) ^^^ 0x1021#16 else c <<< 1

/-- A function applied `n` times. -/
def iterate {α : Type} (f : α → α) : Nat → α → α
  | 0, a => a
  | n + 1, a => iterate f n (f a)

/-- One byte of the CRC-16. -/
def crc16Byte (c : BitVec 16) (b : Byte) : BitVec 16 :=
  iterate crc16Bit 8 (c ^^^ (b.setWidth 16 <<< 8))

/-- CHECK over some bytes: initial value 0xFFFF, no reflection, no final inversion (R172). -/
def crc16 (bytes : List Byte) : BitVec 16 :=
  bytes.foldl crc16Byte 0xFFFF#16

/-- One bit of the CRC-32: generator polynomial 0x04C11DB7 taken least significant bit first, so 0xEDB88320 (R176). -/
def crc32Bit (c : BitVec 32) : BitVec 32 :=
  if c.getLsbD 0 then (c >>> 1) ^^^ 0xEDB88320#32 else c >>> 1

/-- One byte of the CRC-32. -/
def crc32Byte (c : BitVec 32) (b : Byte) : BitVec 32 :=
  iterate crc32Bit 8 (c ^^^ b.setWidth 32)

/-- The check of a profile record: initial value 0xFFFFFFFF, the result inverted (R176). -/
def crc32 (bytes : List Byte) : BitVec 32 :=
  ~~~ (bytes.foldl crc32Byte 0xFFFFFFFF#32)

/-- A message on the line (section 12.1): SYNC, LENGTH, KIND, TAG, BODY, CHECK. -/
def envelope (kind tag : Byte) (body : List Byte) : List Byte :=
  let span := bytesOf 2 (2 + body.length) ++ [kind, tag] ++ body
  [0xA5] ++ span ++ bytesOf 2 (crc16 span).toNat

end Sys2Proof.Machine
end

