-- ==== Sys2Proof/Machine/Profile.lean ====
section
/-! DEFINITION. Profiles: the built-in profile 0 (R123), and the profile record with its tests (R149, R176). -/

namespace Sys2Proof.Machine

/-- R123: the weight of segment `s` on zone `z`: 255 on its own sector, 96 on the two beside it, 0 elsewhere. -/
def builtinWeight (z : Fin 48) (s : Fin 12) : Nat :=
  let sector := z.val % 12
  if sector = s.val then 255
  else if sector = (s.val + 11) % 12 ∨ sector = (s.val + 1) % 12 then 96
  else 0

/-- Profile 0 (R123). -/
def Profile.builtin : Profile where
  geometry := { cx := 640, cy := 512, r1 := 128, r2 := 256, r3 := 384, r4 := 512, offset := 0 }
  startLevels := Table.fill 12 96
  influence := Table.ofFn fun z => Table.ofFn fun s => builtinWeight z s
  shading := Table.fill 48 256
  mesh := Table.ofFn fun i => Table.ofFn fun j =>
    { x := 16 * (128 + 64 * (j.val : Int)), y := 16 * (128 + 64 * (i.val : Int)) }

/-- R176: the record length of format version 1. -/
def recordLength : Nat := 1609

/-- `n` bytes of a record at an offset. -/
def fieldAt (record : List Byte) (offset n : Nat) : List Byte :=
  (record.drop offset).take n

/-- A number of `n` bytes of a record at an offset (R176, R173). -/
def numberAt (record : List Byte) (offset n : Nat) : Nat :=
  natOf (fieldAt record offset n)

/-- R149: format version 1, and a profile id equal to the one given, 1 to 16. -/
def recordIdPasses (record : List Byte) (id : Nat) : Bool :=
  decide (numberAt record 0 1 = 1) && decide (numberAt record 1 1 = id) && decide (1 ≤ id) && decide (id ≤ 16)

/-- R149: the bores lie in 50 to 1,500 mm, bore min below bore max. -/
def recordBoresPass (record : List Byte) : Bool :=
  let low := numberAt record 3 2
  let high := numberAt record 5 2
  decide (50 ≤ low) && decide (high ≤ 1500) && decide (low < high)

/-- R149: centre, radii and sector offset lie in their ranges, the radii rising. -/
def recordGeometryPasses (record : List Byte) : Bool :=
  let r1 := numberAt record 27 2
  let r2 := numberAt record 29 2
  let r3 := numberAt record 31 2
  let r4 := numberAt record 33 2
  decide (numberAt record 23 2 ≤ 1279) && decide (numberAt record 25 2 ≤ 1023) &&
    decide (1 ≤ r1) && decide (r1 < r2) && decide (r2 < r3) && decide (r3 < r4) && decide (r4 ≤ 1024) &&
    decide (numberAt record 35 2 ≤ 359)

/-- R149: each shading gain of some bytes, two bytes each, lies in 64 to 2,048. -/
def gainsPass : List Byte → Bool
  | lo :: hi :: rest =>
    let g := lo.toNat + 256 * hi.toNat
    decide (64 ≤ g) && decide (g ≤ 2048) && gainsPass rest
  | _ => true

/-- R149, R176: the check equals the CRC-32 over every preceding byte. -/
def recordCheckPasses (record : List Byte) : Bool :=
  decide ((crc32 (record.take 1605)).toNat = numberAt record 1605 4)

/-- R149: the record is well formed and names the profile id. Start levels, influence, label and mesh allow every
value of their bytes. -/
def recordPasses (record : List Byte) (id : Nat) : Bool :=
  recordIdPasses record id && recordBoresPass record && recordGeometryPasses record &&
    gainsPass (fieldAt record 625 96) && recordCheckPasses record

/-- R147: the directory fields of a record. -/
def recordHeader (record : List Byte) : RecordHeader where
  lens := numberAt record 2 1
  boreMin := numberAt record 3 2
  boreMax := numberAt record 5 2
  label := fieldAt record 7 16

/-- R176: the tables of a record. -/
def recordProfile (record : List Byte) : Profile where
  geometry :=
    { cx := numberAt record 23 2, cy := numberAt record 25 2,
      r1 := numberAt record 27 2, r2 := numberAt record 29 2, r3 := numberAt record 31 2, r4 := numberAt record 33 2,
      offset := numberAt record 35 2 }
  startLevels := Table.ofFn fun s => numberAt record (37 + s.val) 1
  influence := Table.ofFn fun z => Table.ofFn fun s => numberAt record (49 + 12 * z.val + s.val) 1
  shading := Table.ofFn fun z => numberAt record (625 + 2 * z.val) 2
  mesh := Table.ofFn fun i => Table.ofFn fun j =>
    { x := intOf (fieldAt record (721 + 4 * (17 * i.val + j.val)) 2),
      y := intOf (fieldAt record (721 + 4 * (17 * i.val + j.val) + 2) 2) }

end Sys2Proof.Machine
end

