-- ==== Sys2Proof/Machine/Blocks.lean ====
section
/-! DEFINITION. The state of each block of the part, and what each block holds after a reset. -/

namespace Sys2Proof.Machine

/-- The input lines whose levels the rules read (00 'Signals'): A, B, EXCL and WPROT (asserted or not). -/
structure Pins where
  phaseA : Bool
  phaseB : Bool
  excl : Bool
  wprot : Bool
deriving DecidableEq, Repr

/-- The line interface (chapter 11). `staged` holds, within one event, the notices its steps have queued so far:
they are placed after the event's reply (R164), and the list is empty between events. -/
structure LineState where
  receiver : Receiver
  inbound : List Message
  inHand : Option InHand
  outbound : List OutMessage
  onLine : Option OnLine
  lastParty : Party
  conditions : BitVec 20
  params : ParamTable
  staged : List Notice
deriving DecidableEq, Repr

/-- The run controller (chapter 1). A timer is stopped, or holds the time it was loaded with: `intervalTimer` and
`wakeTimer` in ms, `silenceTimer` in s. `selfTest` is the segment whose turn it is while the ring self-test runs. -/
structure RunState where
  part : PartState
  runNumber : Nat
  current : Option RunRecord
  last : Option RunRecord
  pendingTrigger : Option Trigger
  intervalTimer : Option Nat
  silenceTimer : Option Nat
  wakeTimer : Option Nat
  wakeReason : Option WakeReason
  selfTest : Option (Fin 12)
deriving DecidableEq, Repr

/-- The travel counter (chapter 2): window length and stall timer in ms, edge times in µs. -/
structure TravelState where
  refA : Bool
  refB : Bool
  position : Word32
  countdown : Option Nat
  windowLength : Nat
  windowCount : Nat
  lastEdge : Option Nat
  period : Option Nat
  stallTimer : Option Nat
  speed : Nat
  method : SpeedMethod
  direction : Direction
  motion : Option Nat
deriving DecidableEq, Repr

/-- The ring driver (chapters 3 and 4): `request` is the slot of a strobe request not yet taken, `guard` the time in µs
the strobe guard was armed with, `drives` the level each segment is driven at. -/
structure RingState where
  segments : Table 12 Segment
  lockout : LockoutSet
  request : Option (Fin 6)
  deferral : Option Deferral
  strobe : Option Strobe
  guard : Option Nat
  drives : Table 12 Nat
  lit : Bool
  expose : Bool
deriving DecidableEq, Repr

/-- The supply monitor (chapter 5). Group ceilings and ring budget are functions of the steps (R78, R82). -/
structure MonitorState where
  conversion : Option Conversion
  scanPosition : Channel
  rest : Table 6 (Option Int)
  lastStrobe : Option (Nat × Nat)
  supplyStep : Nat
  droopFree : Nat
  lowStreak : Nat
  thermalStep : Table 3 Nat
  lastResolution : Option Nat
deriving DecidableEq, Repr

/-- The balance unit (chapter 6). -/
structure BalanceUnit where
  energies : Table 12 Nat
  zoneMap : Option ZoneMap
  verdicts : Option (Table 12 Verdict)
  state : BalanceState
  settle : Nat
  stale : Option Nat
deriving DecidableEq, Repr

/-- The frame store and its sensor port (chapter 7): a FREE slot holds no frame; `exhausted` says that frame number
4,294,967,295 has been given (R110). -/
structure FrameStore where
  slots : Table 6 (Option Frame)
  queue : List (Fin 6)
  nextFrame : Nat
  exhausted : Bool
  port : Port
  readoutLimit : Option Nat
deriving DecidableEq, Repr

/-- The correction engine (chapter 8): the banks, and the slot in hand with its next tile. -/
structure EngineState where
  bankA : Bank
  bankB : Bank
  hand : Option (Fin 6 × Nat)
deriving DecidableEq, Repr

/-- The profile store (chapter 10). `disturbances` numbers the areas interrupted in the middle of a phase. -/
structure StoreState where
  areas : Table 16 Area
  control : Control
  directory : Table 16 DirEntry
  protectSet : BitVec 16
  scanning : Bool
  staging : Memory
  permit : Bool
  lockdown : Bool
  operation : Option Operation
  lastResult : Option (OperationResult × Byte)
  load : Option LoadRecord
  serving : Option Claim
  waiting : List Claim
  disturbances : Nat
deriving DecidableEq, Repr

/-- R171: the line interface after both kinds of reset. -/
def LineState.atReset : LineState where
  receiver := .hunting
  inbound := []
  inHand := none
  outbound := []
  onLine := none
  lastParty := .queue
  conditions := 0
  params := ParamTable.resetValues
  staged := []

/-- R2: the run controller after a reset; the run number is 0 after power-on and kept through a soft reset, and the
silence timer runs with the reset value of SILENCE_TIMEOUT. -/
def RunState.atReset (runNumber : Nat) : RunState where
  part := .startup
  runNumber := runNumber
  current := none
  last := none
  pendingTrigger := none
  intervalTimer := none
  silenceTimer := some 30
  wakeTimer := none
  wakeReason := none
  selfTest := none

/-- R35: the travel counter after a reset, with the phase levels found at that moment; the position is 0 after
power-on and kept through a soft reset. -/
def TravelState.atReset (a b : Bool) (position : Word32) : TravelState where
  refA := a
  refB := b
  position := position
  countdown := none
  windowLength := 100
  windowCount := 0
  lastEdge := none
  period := none
  stallTimer := none
  speed := 0
  method := .stalled
  direction := .stalled
  motion := none

/-- R38: a segment record after both kinds of reset. -/
def Segment.atReset : Segment where
  state := .enabled
  health := .untested
  hostCeiling := 255
  lastLevel := 0
  saturatedLast := false
  weakCount := 0
  faultCount := 0
  strobeCount := 0

/-- R38, R54, R72: the ring driver after both kinds of reset. -/
def RingState.atReset : RingState where
  segments := Table.fill 12 Segment.atReset
  lockout := { thermal := false, supply := false, guard := false }
  request := none
  deferral := none
  strobe := none
  guard := none
  drives := Table.fill 12 0
  lit := false
  expose := false

/-- R87: the supply monitor after both kinds of reset; a SUPPLY scan conversion starts at the reset. -/
def MonitorState.atReset : MonitorState where
  conversion := some { channel := .supply, kind := .scan, resolution := 12 }
  scanPosition := .supply
  rest := Table.fill 6 none
  lastStrobe := none
  supplyStep := 0
  droopFree := 0
  lowStreak := 0
  thermalStep := Table.fill 3 0
  lastResolution := none

/-- R88: the balance unit after both kinds of reset: 96 times 2,000 for every segment. -/
def BalanceUnit.atReset : BalanceUnit where
  energies := Table.fill 12 192000
  zoneMap := none
  verdicts := none
  state := .cold
  settle := 0
  stale := none

/-- R121: the frame store after a reset; the next frame number is 1 after power-on and kept through a soft reset, and
so is the exhaustion of the numbers (R110). -/
def FrameStore.atReset (nextFrame : Nat) (exhausted : Bool) : FrameStore where
  slots := Table.fill 6 none
  queue := []
  nextFrame := nextFrame
  exhausted := exhausted
  port := .idle
  readoutLimit := none

/-- R122: an EMPTY bank. -/
def Bank.none : Bank where
  state := .empty
  profileId := Option.none
  references := 0
  contents := Option.none

/-- R135: the correction engine after both kinds of reset. -/
def EngineState.atReset : EngineState where
  bankA := { state := .current, profileId := some 0, references := 0, contents := some Profile.builtin }
  bankB := Bank.none
  hand := none

/-- An area with every byte erased. -/
def Area.erased : Area where
  mem := Memory.erased
  disturbed := none

/-- R160: the profile store after a reset, over what its non-volatile array holds, with lockdown as the kind of reset
leaves it; the scan begins. Directory and protect set are set by the scan (R148): until it ends they read INVALID and
all sixteen (log 7). -/
def StoreState.atReset (areas : Table 16 Area) (control : Control) (lockdown : Bool) (disturbances : Nat) :
    StoreState where
  areas := areas
  control := control
  directory := Table.fill 16 .invalid
  protectSet := 0xFFFF
  scanning := true
  staging := Memory.erased
  permit := false
  lockdown := lockdown
  operation := none
  lastResult := none
  load := none
  serving := none
  waiting := []
  disturbances := disturbances

end Sys2Proof.Machine
end

