-- ==== Sys2Proof/Machine/Flags.lean ====
section
/-! DEFINITION. Sets of flags: the condition set (R166), the lockout set (R52), frame flags (R106), and the bits they
are sent as (R173). -/

namespace Sys2Proof.Machine

/-- The set of one condition (R173). -/
def Condition.mask (c : Condition) : BitVec 20 :=
  1#20 <<< c.bit

/-- The condition is in the set. -/
def Condition.isIn (c : Condition) (set : BitVec 20) : Bool :=
  set.getLsbD c.bit

/-- The set with the condition. -/
def Condition.addTo (c : Condition) (set : BitVec 20) : BitVec 20 :=
  set ||| c.mask

/-- R167: the set less the conditions a mask names. -/
def clearedConditions (set mask : BitVec 20) : BitVec 20 :=
  set &&& ~~~mask

/-- No reason is in the lockout set. -/
def LockoutSet.isEmpty (l : LockoutSet) : Bool :=
  !l.thermal && !l.supply && !l.guard

/-- The reason is in the lockout set. -/
def LockoutSet.holds (l : LockoutSet) : LockoutReason → Bool
  | .thermal => l.thermal
  | .supply => l.supply
  | .guard => l.guard

/-- The lockout set with a reason in it or not. -/
def LockoutSet.put (l : LockoutSet) (r : LockoutReason) (v : Bool) : LockoutSet :=
  match r with
  | .thermal => { l with thermal := v }
  | .supply => { l with supply := v }
  | .guard => { l with guard := v }

/-- R53: the condition flag that acknowledges a reason. -/
def LockoutReason.condition : LockoutReason → Condition
  | .thermal => .thermalTrip
  | .supply => .supplyLow
  | .guard => .strobeOverrun

/-- R14: the end reason a reason's entry gives a run. -/
def LockoutReason.endReason : LockoutReason → EndReason
  | .thermal => .thermalTrip
  | .supply => .supplyLow
  | .guard => .strobeOverrun

/-- R173: bit 0 THERMAL, bit 1 SUPPLY, bit 2 GUARD. -/
def LockoutSet.code (l : LockoutSet) : Nat :=
  l.thermal.toNat + 2 * l.supply.toNat + 4 * l.guard.toNat

/-- R108, step 5: the frame flags at allocation. -/
def FrameFlags.atAllocation (profileId : Nat) : FrameFlags where
  cut := false
  saturated := false
  speedLimited := false
  segmentFaulted := false
  droop := false
  deferred := false
  partialPicture := false
  unsettled := false
  defaultProfile := decide (profileId = 0)

/-- Section 12.4: the bits of the frame flags. -/
def FrameFlags.code (f : FrameFlags) : Nat :=
  f.cut.toNat + 2 * f.saturated.toNat + 4 * f.speedLimited.toNat + 8 * f.segmentFaulted.toNat +
    16 * f.droop.toNat + 32 * f.deferred.toNat + 64 * f.partialPicture.toNat + 128 * f.unsettled.toNat +
    256 * f.defaultProfile.toNat

/-- R63: what a strobe start gives a frame; a flag already set stays. -/
def FrameFlags.withStart (f : FrameFlags) (saturated speedLimited segmentFaulted unsettled : Bool) : FrameFlags :=
  { f with
    saturated := f.saturated || saturated
    speedLimited := f.speedLimited || (speedLimited && saturated)
    segmentFaulted := f.segmentFaulted || segmentFaulted
    unsettled := f.unsettled || unsettled }

end Sys2Proof.Machine
end

