-- ==== Sys2Proof/Machine/Operands.lean ====
section
/-! DEFINITION. The operands of a request: which row of the table a body spells, the body-length test (R174), and the
fields of a body (section 12.2). -/

namespace Sys2Proof.Machine

/-- The body's code byte at `i`, when present, is not one of the codes of the request's OTHER rows: a SEGMENT_SET
with action DISABLE is row SEGMENT_DISABLE and no other. A code that is not defined at all fits any of the rows
(log 2). -/
def codeNotOf (others : List Nat) (i : Nat) (body : List Byte) : Bool :=
  match body[i]? with
  | some c => !others.contains c.toNat
  | none => true

/-- R161, R174: a body can reach the decoder: with KIND and TAG it fits an inbound LENGTH of at most 300. -/
def bodyArrives (body : List Byte) : Bool :=
  decide (body.length ≤ 298)

/-- The request kinds are 0x01 to 0x23 (section 12.2). -/
def isRequestCode (kind : Byte) : Bool :=
  decide (1 ≤ kind.toNat) && decide (kind.toNat ≤ 0x23)

/-- The body bytes of a request (section 12.2); `none` for STORE_STAGE, whose length its body states. -/
def RequestKind.bodyLength : RequestKind → Option Nat
  | .identify | .status | .reset | .runStop | .trigger | .single | .park | .wake | .sleep | .segmentReport
  | .monitorReport | .balanceHold | .balanceRelease | .balanceRestart | .zoneReport | .slotReport | .storePermit
  | .storeRevoke | .storeLockdown | .storeDirectory => some 0
  | .getParam | .storeCommit | .storeErase => some 1
  | .storeProtect => some 2
  | .segmentSet => some 3
  | .clearConditions | .runStart | .setPosition | .loadProfile => some 4
  | .setParam | .releaseFrame | .storeRead => some 5
  | .transferStop => some 6
  | .transferGrant => some 7
  | .storeStage => none

/-- R174: the body's length is that of the table; a STORE_STAGE body is 4 bytes plus the length it states. -/
def RequestKind.bodyFits (kind : RequestKind) (body : List Byte) : Bool :=
  match kind.bodyLength with
  | some n => decide (body.length = n)
  | none => decide (4 ≤ body.length) && decide (body.length = 4 + numberAt body 2 2)

/-- A segment number of a body (R47). -/
def segmentOf (n : Nat) : Option (Fin 12) :=
  if h : n < 12 then some ⟨n, h⟩ else none

/-- A slot number of a body (R117, R137, R143). -/
def slotOf (n : Nat) : Option (Fin 6) :=
  if h : n < 6 then some ⟨n, h⟩ else none

/-- An area id 1 to 16 of a body; area `i` of a `Fin 16` is area id `i + 1` (R153). -/
def areaOf (n : Nat) : Option (Fin 16) :=
  if h : 1 ≤ n ∧ n ≤ 16 then some ⟨n - 1, by omega⟩ else none

/-- A yes or no of a body (R173, R174). -/
def flagOf (n : Nat) : Option Bool :=
  if n = 0 then some false else if n = 1 then some true else none

/-- The start of a TRANSFER_GRANT (section 12.2): a tile number, or CONTINUE (`none` inside). -/
def startOf (n : Nat) : Option (Option Nat) :=
  if n ≤ 191 then some (some n) else if n = 255 then some none else none

end Sys2Proof.Machine
end

