-- ==== Sys2Proof/Machine/State.lean ====
section
/-! DEFINITION. The state of the part: the ten blocks, the input lines, and the queue of commands that wait. -/

namespace Sys2Proof.Machine

/-- The whole part. `pending` is the model's queue of commands, first in, first out; `powered` is no while a brownout
holds the part in reset (R81); `transfer` is the tile sender's transfer record (R136). -/
structure State where
  pending : List Instr
  powered : Bool
  pins : Pins
  line : LineState
  run : RunState
  travel : TravelState
  ring : RingState
  monitor : MonitorState
  balance : BalanceUnit
  frames : FrameStore
  engine : EngineState
  transfer : Option Transfer
  store : StoreState
deriving DecidableEq, Repr

/-- The part has no fault: no rule of the manual stops it, so this type has no constructor and no command raises one.
-/
inductive Fault where
deriving DecidableEq, Repr

/-- Why the model gives no meaning. -/
inductive Refusal where
  /-- A command of the table without a meaning yet: raised by `exec` alone, by name. SAFE: the model stops where the
  part goes on. No arm of `exec` uses it. -/
  | notModelled (mnemonic : String)
deriving DecidableEq, Repr

/-- The part right after a power-on reset (R2, R35, R38, R54, R72, R87, R88, R121, R135, R136, R160, R171). The pin
levels and the content of the non-volatile array are the model's choices (log 5, log 6). -/
def State.reset : State where
  pending := []
  powered := true
  pins := { phaseA := false, phaseB := false, excl := false, wprot := false }
  line := LineState.atReset
  run := RunState.atReset 0
  travel := TravelState.atReset false false 0
  ring := RingState.atReset
  monitor := MonitorState.atReset
  balance := BalanceUnit.atReset
  frames := FrameStore.atReset 1 false
  engine := EngineState.atReset
  transfer := none
  store := StoreState.atReset (Table.fill 16 Area.erased) .erased false 0

end Sys2Proof.Machine
end

