-- ==== Sys2Proof/Machine/Ops.lean ====
section
/-! DEFINITION. The named operations every command is made of: one block changed, a condition raised, a notice queued,
a request taken and answered, and the frame of one event. -/

namespace Sys2Proof.Machine

/-! ## One block changed -/

/-- The line interface changed. -/
def State.updLine (s : State) (f : LineState → LineState) : State := { s with line := f s.line }

/-- The run controller changed. -/
def State.updRun (s : State) (f : RunState → RunState) : State := { s with run := f s.run }

/-- The travel counter changed. -/
def State.updTravel (s : State) (f : TravelState → TravelState) : State := { s with travel := f s.travel }

/-- The ring driver changed. -/
def State.updRing (s : State) (f : RingState → RingState) : State := { s with ring := f s.ring }

/-- The supply monitor changed. -/
def State.updMonitor (s : State) (f : MonitorState → MonitorState) : State := { s with monitor := f s.monitor }

/-- The balance unit changed. -/
def State.updBalance (s : State) (f : BalanceUnit → BalanceUnit) : State := { s with balance := f s.balance }

/-- The frame store changed. -/
def State.updFrames (s : State) (f : FrameStore → FrameStore) : State := { s with frames := f s.frames }

/-- The correction engine changed. -/
def State.updEngine (s : State) (f : EngineState → EngineState) : State := { s with engine := f s.engine }

/-- The profile store changed. -/
def State.updStore (s : State) (f : StoreState → StoreState) : State := { s with store := f s.store }

/-- The transfer record replaced. -/
def State.putTransfer (s : State) (t : Option Transfer) : State := { s with transfer := t }

/-- The input lines changed. -/
def State.updPins (s : State) (f : Pins → Pins) : State := { s with pins := f s.pins }

/-! ## Conditions and notices (R164 to R166) -/

/-- R166: a flag that is clear becomes set and, under NOTICE_MASK, queues a CONDITION notice with the set after the
raise; a flag already set changes nothing. NOTICE_LOST queues none (R164). -/
def LineState.raise (c : Condition) (l : LineState) : LineState :=
  if c.isIn l.conditions then l
  else
    { l with
      conditions := c.addTo l.conditions
      staged :=
        if c ≠ .noticeLost ∧ (l.params.value .noticeMask).testBit c.bit then
          l.staged ++ [.condition c (c.addTo l.conditions)]
        else l.staged }

/-- A notice of the event in progress (log 12). -/
def LineState.notify (n : Notice) (l : LineState) : LineState :=
  { l with staged := l.staged ++ [n] }

/-- R164: a notice is placed when the queue holds fewer than fourteen messages; otherwise it is dropped and
NOTICE_LOST is raised. -/
def LineState.placeNotice (l : LineState) (n : Notice) : LineState :=
  if l.outbound.length < 14 then { l with outbound := l.outbound ++ [.notice n] }
  else l.raise .noticeLost

/-- R164: at the end of an event its notices are placed, in the order in which its steps queued them. -/
def LineState.flush (l : LineState) : LineState :=
  l.staged.foldl LineState.placeNotice { l with staged := [] }

/-- A condition raised (R166). -/
def State.raise (c : Condition) (s : State) : State := s.updLine (LineState.raise c)

/-- A notice queued (R165). -/
def State.notify (n : Notice) (s : State) : State := s.updLine (LineState.notify n)

/-- One whole event of a powered part: its steps, then its notices in the outbound queue. While a brownout holds the
part in reset, nothing happens in it (R81, log 13). -/
def Event.run (s : State) (f : State → State) : Host.Outcome State Fault Refusal :=
  .next (if s.powered then (f s).updLine LineState.flush else s)

/-- One event on an input line, which has a level whether or not the part is powered: the level, then the part's
steps. -/
def Event.runPin (s : State) (level : Pins → Pins) (f : State → State) : Host.Outcome State Fault Refusal :=
  Event.run (s.updPins level) f

/-! ## Requests and replies (R163, R164) -/

/-- A reply's kind is its request's kind plus 0x80; the reply to a kind that is not defined has kind 0xFF (R175). -/
def replyKind (kind : Byte) (body : ReplyBody) : Byte :=
  match body with
  | .unknownKind _ => 0xFF
  | _ => kind + 0x80

/-- The reply of an accepted RESET (R170). -/
def OutMessage.isResetReply : OutMessage → Bool
  | .reply kind _ (.done _) => kind == 0x86
  | _ => false

/-- R164: a reply is placed when the queue holds fewer than sixteen messages, and the decoder is then free, but for a
RESET, which stops it for good (R170); otherwise the reply and the decoder wait. -/
def LineState.place (l : LineState) (h : InHand) (m : OutMessage) : LineState :=
  if l.outbound.length < 16 then
    { l with
      outbound := l.outbound ++ [m]
      inHand := if m.isResetReply then some { h with wait := .reset } else none }
  else { l with inHand := some { h with wait := .place m } }

/-- The reply of the request in hand (R163). -/
def LineState.answer (body : ReplyBody) (l : LineState) : LineState :=
  match l.inHand with
  | some h => l.place h (.reply (replyKind h.kind body) h.tag body)
  | none => l

/-- The request in hand is answered. -/
def State.answer (body : ReplyBody) (s : State) : State := s.updLine (LineState.answer body)

/-- DONE with result fields. -/
def State.done (r : Result) (s : State) : State := s.answer (.done r)

/-- TAKEN with result fields. -/
def State.taken (r : Result) (s : State) : State := s.answer (.taken r)

/-- REFUSED with a reason; nothing else changes. -/
def State.refuse (r : Reason) (s : State) : State := s.answer (.refused r)

/-- R163: the decoder has no request in hand, and the message is the oldest in the inbound buffer; with the buffer
empty the message is taken as it comes (log 2). A longer body than the inbound LENGTH
admits is discarded by the receiver and never decoded (R174). -/
def LineState.canTake (l : LineState) (kind tag : Byte) (body : List Byte) : Bool :=
  l.inHand.isNone && bodyArrives body &&
    (match l.inbound with
      | [] => true
      | m :: _ => decide (m = { kind := kind, tag := tag, body := body }))

/-- R163: the message leaves the buffer and is in hand. -/
def LineState.take (kind tag : Byte) (l : LineState) : LineState :=
  { l with inbound := l.inbound.tail, inHand := some { kind := kind, tag := tag, wait := .handling } }

/-- R1: the requests answered in each part state. -/
def RequestKind.answeredIn (kind : RequestKind) (p : PartState) : Bool :=
  match p with
  | .startup | .waking =>
    match kind with
    | .identify | .status => true
    | _ => false
  | .dormant =>
    match kind with
    | .identify | .status | .wake => true
    | _ => false
  | .ready | .running | .stopping | .parked => true

/-- R163: the decoder takes one request and screens it: part state, then body length, then the request's own rule.
`fits` says that the body spells this row of the table and no other. A message the decoder cannot take, or that is not
this row's, leaves the part as it is (log 2). A message taken as it comes, with an empty buffer, is no message received
under R19: the silence timer restarts at MESSAGE_RECEIVED alone (log 2). -/
def State.request (kind : RequestKind) (tag : Byte) (body : List Byte) (fits : Bool) (rule : State → State)
    (s : State) : State :=
  if s.line.canTake kind.byte tag body && fits then
    let t := s.updLine (LineState.take kind.byte tag)
    if kind.answeredIn t.run.part then
      if kind.bodyFits body then rule t else t.refuse .malformed
    else t.refuse .wrongState
  else s

/-- R163: the request in hand holds the decoder until something ends. -/
def LineState.hold (w : HandWait) (l : LineState) : LineState :=
  { l with inHand := l.inHand.map fun h => { h with wait := w } }

/-! ## Parameters -/

/-- The value of a parameter now (R168). -/
def State.param (s : State) (p : Param) : Nat :=
  s.line.params.value p

end Sys2Proof.Machine
end

