-- ==== Sys2Proof/Machine/Captures.lean ====
section
/-! DEFINITION. The operations that several blocks share in one event: slots and banks (R107, R126, R127), allocation
(R108 to R110), triggers and the end of a run (R8 to R16), abandonment (R57), cuts (R69), and the lockout set (R52,
R53). -/

namespace Sys2Proof.Machine

/-! ## Slots -/

/-- The frame a slot holds; none when FREE. -/
def State.frameAt (s : State) (i : Fin 6) : Option Frame :=
  s.frames.slots.get i

/-- The slot's content replaced. -/
def State.putFrame (i : Fin 6) (o : Option Frame) (s : State) : State :=
  s.updFrames fun f => { f with slots := f.slots.set i o }

/-- The frame of a slot changed; a FREE slot stays FREE. -/
def State.modifyFrame (i : Fin 6) (g : Frame → Frame) (s : State) : State :=
  s.putFrame i ((s.frameAt i).map g)

/-- The slot holds a frame in this state. -/
def FrameStore.slotIs (p : FrameState → Bool) : Option Frame → Bool
  | some f => p f.state
  | none => false

/-- Some slot is ARMED, EXPOSING or READING (section 1.1). -/
def State.pathBusy (s : State) : Bool :=
  s.frames.slots.any (FrameStore.slotIs FrameState.onSensorPath)

/-- The slot in one state, lowest first. -/
def State.slotIn (s : State) (p : FrameState → Bool) : Option (Fin 6) :=
  s.frames.slots.first (FrameStore.slotIs p)

/-! ## Banks (R122 to R127) -/

/-- One bank record. -/
def EngineState.bank (e : EngineState) : BankId → Bank
  | .a => e.bankA
  | .b => e.bankB

/-- One bank record replaced. -/
def EngineState.setBank (e : EngineState) (which : BankId) (k : Bank) : EngineState :=
  match which with
  | .a => { e with bankA := k }
  | .b => { e with bankB := k }

/-- The CURRENT bank (R122). -/
def EngineState.current (e : EngineState) : BankId :=
  if e.bankB.state = .current then .b else .a

/-- The tables of a bank. A bank that a slot names or that is CURRENT has contents; the model reads profile 0's where
there are none (log 21). -/
def EngineState.tables (e : EngineState) (which : BankId) : Profile :=
  (e.bank which).contents.getD Profile.builtin

/-- R127: a slot's entry into ARMED increments the references of its bank. -/
def EngineState.addReference (which : BankId) (e : EngineState) : EngineState :=
  e.setBank which { e.bank which with references := (e.bank which).references + 1 }

/-- R127, R126: a bank without references that is RETIRING becomes EMPTY. -/
def Bank.settled (k : Bank) : Bank :=
  if k.state = .retiring ∧ k.references = 0 then Bank.none else k

/-- R127: a slot's departure from the referencing states decrements the references of its bank. -/
def EngineState.endReference (which : BankId) (e : EngineState) : EngineState :=
  e.setBank which (Bank.settled { e.bank which with references := (e.bank which).references - 1 })

/-- R96: an entry to COLD refills the energy requests from the CURRENT bank's start levels and STROBE_MAX. -/
def State.enterCold (s : State) : State :=
  let levels := (s.engine.tables s.engine.current).startLevels
  let longest := s.param .strobeMax
  s.updBalance fun u => { u with
    state := .cold
    settle := 0
    energies := levels.map fun level => level * longest }

/-- R126: the LOADED bank `which` becomes CURRENT and the old CURRENT bank retires. -/
def EngineState.swap (which : BankId) (e : EngineState) : EngineState :=
  let old := { e.bank which.other with state := .retiring }
  (e.setBank which { e.bank which with state := .current }).setBank which.other (Bank.settled old)

/-- R126: a swap takes place when a bank is LOADED and the sensor path is idle; the balance unit enters COLD and its
stale frame becomes absent. -/
def State.swapIfDue (s : State) : State :=
  let which := s.engine.current.other
  if (s.engine.bank which).state = .loaded ∧ s.pathBusy = false then
    let t := (s.updEngine (EngineState.swap which)).enterCold
    t.updBalance fun u => { u with stale := none }
  else s

/-- R107: a slot becomes FREE; its frame is discarded and, from a referencing state, its bank reference ends. -/
def State.discard (i : Fin 6) (s : State) : State :=
  match s.frameAt i with
  | some f =>
    let t := s.putFrame i none
    if f.state.referencing then t.updEngine (EngineState.endReference f.bank) else t
  | none => s

/-- R128: the idle, running engine takes the slot at the head of the correction queue. -/
def State.engineTake (s : State) : State :=
  match s.engine.hand, s.frames.queue with
  | none, i :: rest =>
    if s.run.part = .dormant then s
    else
      let t := (s.updFrames fun f => { f with queue := rest }).modifyFrame i
        fun f => { f with state := .correcting }
      t.updEngine fun e => { e with hand := some (i, 0) }
  | _, _ => s

/-! ## Runs (R6, R14 to R16) -/

/-- R6: a capture of the run of this number ended without a captured frame; a SINGLE is counted in no run. -/
def RunState.countSkipped (number : Option Nat) (r : RunState) : RunState :=
  { r with current := r.current.map fun c =>
      if number = some c.number then { c with skipped := c.skipped + 1 } else c }

/-- R6: a readout-complete event of a slot carrying the run's number. -/
def RunState.countCaptured (number : Option Nat) (r : RunState) : RunState :=
  { r with current := r.current.map fun c =>
      if number = some c.number then { c with captured := c.captured + 1 } else c }

/-- The open run's number. -/
def State.openRun (s : State) : Option Nat :=
  s.run.current.map RunRecord.number

/-- R16: the part state after a run that ended for this reason. -/
def EndReason.partAfter : EndReason → PartState
  | .parked | .silence => .parked
  | .countReached | .hostStop | .thermalTrip | .supplyLow | .strobeOverrun => .ready

/-- R16: the run closes in STOPPING when the sensor path is idle: its record becomes the last one, RUN_ENDED is queued,
and the part goes to PARKED or READY. -/
def State.closeIfIdle (s : State) : State :=
  if s.run.part = .stopping ∧ s.pathBusy = false then
    match s.run.current with
    | some c =>
      let t := s.updRun fun r => { r with last := some c, current := none }
      let t := t.notify (.runEnded c)
      t.updRun fun r => { r with part := (c.endReason.map EndReason.partAfter).getD .ready }
    | none => s.updRun fun r => { r with part := .ready }
  else s

/-- R57: an ARMED slot whose strobe has not started is abandoned: a held deferral is discarded, the slot is FREE, its
run counts it skipped, and the sensor path is reported idle (R107). -/
def State.abandon (i : Fin 6) (s : State) : State :=
  match s.frameAt i with
  | some f =>
    if f.state = .armed then
      let t := (s.updRing fun r => { r with deferral := none }).discard i
      (t.updRun (RunState.countSkipped f.run)).swapIfDue
    else s
  | none => s

/-- R15, step 4: any ARMED slot is abandoned. -/
def State.abandonArmed (s : State) : State :=
  match s.slotIn (fun p => decide (p = .armed)) with
  | some i => s.abandon i
  | none => s

/-- R15, steps 1 to 3: end position and end reason, trigger sources stopped, the pending trigger discarded as
skipped. -/
def State.stopRun (reason : EndReason) (s : State) : State :=
  let position := s.travel.position
  let lost : Word32 := if s.run.pendingTrigger.isSome then 1 else 0
  let t := s.updRun fun r => { r with
    current := r.current.map fun c =>
      { c with endPosition := some position, endReason := some reason, skipped := c.skipped + lost }
    intervalTimer := none
    pendingTrigger := none }
  t.updTravel fun v => { v with countdown := none }

/-- R15, steps 1 to 5: the run ends and the part is STOPPING. -/
def State.leaveRunning (reason : EndReason) (s : State) : State :=
  ((s.stopRun reason).abandonArmed).updRun fun r => { r with part := .stopping }

/-- R14, R15: a run end in RUNNING, with R16 at once when the sensor path is idle; in any other part state there is no
run to end. -/
def State.endRun (reason : EndReason) (s : State) : State :=
  if s.run.part = .running then (s.leaveRunning reason).closeIfIdle else s

/-! ## Allocation (R108 to R110) -/

/-- R108: the frame a slot is filled with. -/
def Frame.allocated (number : Nat) (run : Option Nat) (t : Trigger) (bank : BankId) (profileId : Nat) : Frame where
  state := .armed
  number := number
  run := run
  source := t.source
  position := t.position
  bank := bank
  profileId := profileId
  flags := FrameFlags.atAllocation profileId
  strobe := none
  stats := none
  gains := none
  tilesDone := 0
  nextUnsent := 0
  abandon := false
  raw := []
  tiles := []

/-- R110: the last frame number. -/
def lastFrameNumber : Nat := 4294967295

/-- R110: a number is given. -/
def FrameStore.giveNumber (f : FrameStore) : FrameStore :=
  if f.nextFrame < lastFrameNumber then { f with nextFrame := f.nextFrame + 1 } else { f with exhausted := true }

/-- R108: slot `i` is filled, and goes to the ring driver as a strobe request. -/
def State.fillSlot (i : Fin 6) (run : Option Nat) (t : Trigger) (s : State) : State :=
  let which := s.engine.current
  let f := Frame.allocated s.frames.nextFrame run t which ((s.engine.bank which).profileId.getD 0)
  let u := (s.putFrame i (some f)).updFrames FrameStore.giveNumber
  (u.updEngine (EngineState.addReference which)).updRing fun r => { r with request := some i }

/-- R109: the frame number of a slot that RECLAIM may withdraw. -/
def State.reclaimable (s : State) (i : Fin 6) : Option Nat :=
  match s.frameAt i with
  | some f => if f.state.delivered then some f.number else none
  | none => none

/-- R109: of the slots READY, SENT or HELD, the one with the lowest frame number. -/
def State.reclaimCandidate (s : State) : Option (Fin 6) :=
  (List.finRange 6).foldl (init := none) fun best i =>
    match best, s.reclaimable i with
    | none, some _ => some i
    | some j, some n => if n < (s.reclaimable j).getD n then some i else some j
    | best, none => best

/-- R109: FRAME_WITHDRAWN is queued, FRAME_RECLAIMED raised and the frame discarded. -/
def State.withdraw (i : Fin 6) (s : State) : State :=
  match s.frameAt i with
  | some f => (((s.notify (.frameWithdrawn i f.number f.state f.run)).raise .frameReclaimed)).putFrame i none
  | none => s

/-- R109: no slot. -/
def State.starve (s : State) : Option (Fin 6) × State :=
  (none, s.raise .slotStarved)

/-- R108 to R110: an allocation gives the lowest FREE slot, or a withdrawn one under RECLAIM, or none. -/
def State.allocate (run : Option Nat) (t : Trigger) (s : State) : Option (Fin 6) × State :=
  if s.frames.exhausted then s.starve
  else
    match s.frames.slots.first (fun o => o.isNone) with
    | some i => (some i, s.fillSlot i run t)
    | none =>
      if s.line.params.reclaims then
        match s.reclaimCandidate with
        | some i => (some i, (s.withdraw i).fillSlot i run t)
        | none => s.starve
      else s.starve

/-! ## Triggers (R8 to R10) -/

/-- R8: in RUNNING, and the requested count, when not 0, leaves room. -/
def State.triggerFits (s : State) : Bool :=
  match s.run.current with
  | some c =>
    let inFlight := (s.frames.slots.items.filter fun o =>
      match o with
      | some f => f.state.onSensorPath && decide (f.run = some c.number)
      | none => false).length
    let held := if s.run.pendingTrigger.isSome then 1 else 0
    decide (s.run.part = .running) &&
      (decide (c.requested = 0) || decide (c.captured.toNat + inFlight + held < c.requested))
  | none => false

/-- R9: a trigger is served: a slot, or one more skipped. -/
def State.serve (t : Trigger) (s : State) : Option (Fin 6) × State :=
  let r := s.allocate s.openRun t
  match r.1 with
  | some i => (some i, r.2)
  | none => (none, r.2.updRun (RunState.countSkipped s.openRun))

/-- R8: what becomes of a trigger. -/
def State.takeTrigger (t : Trigger) (s : State) : TriggerOutcome × State :=
  if s.triggerFits then
    if s.pathBusy then
      if s.run.pendingTrigger.isSome then
        (.overlap, (s.updRun (RunState.countSkipped s.openRun)).raise .captureOverlap)
      else (.pending, s.updRun fun r => { r with pendingTrigger := some t })
    else
      let r := s.serve t
      match r.1 with
      | some i => (.served i s.frames.nextFrame, r.2)
      | none => (.starved, r.2)
  else (.ignored, s)

/-- R10: the pending trigger, if held, is served with the source and position it kept. -/
def State.servePending (s : State) : State :=
  match s.run.pendingTrigger with
  | some t => ((s.updRun fun r => { r with pendingTrigger := none }).serve t).2
  | none => s

/-! ## The end of a strobe's light (R66, R67, R69) -/

/-- Every segment off, LIT and EXPOSE released, the guard disarmed, the strobe record discarded. -/
def RingState.darken (r : RingState) : RingState :=
  { r with strobe := none, guard := none, drives := Table.fill 12 0, lit := false, expose := false }

/-- The statistics of a readout that has gathered nothing (R111). -/
def ZoneStat.zero : ZoneStat where
  samples := 0
  sum := 0
  clipped := 0

/-- R66, R111: the slot becomes READING: its statistics are cleared, the readout limit of 250 ms starts and the port
waits for frame-start. -/
def State.beginReading (i : Fin 6) (cut : Bool) (s : State) : State :=
  let t := s.modifyFrame i fun f => { f with
    state := .reading
    stats := some (Table.fill 48 ZoneStat.zero)
    flags := { f.flags with cut := f.flags.cut || cut } }
  t.updFrames fun f => { f with port := .waiting, readoutLimit := some 250 }

/-- R66, R67, R69: what the end of a capture strobe's light gives the frame store; a self-test pulse has no slot. -/
def State.handOver (target : StrobeTarget) (cut : Bool) (s : State) : State :=
  match target with
  | .capture i => s.beginReading i cut
  | .selfTest _ => s

/-- R69: THERMAL entering the lockout set cuts a strobe in progress. -/
def State.cutByTrip (s : State) : State :=
  match s.ring.strobe with
  | some lit => (s.updRing RingState.darken).handOver lit.target true
  | none => s

/-! ## The lockout set (R52, R53, R60) -/

/-- R3: the self-test has ended or was skipped: the part is READY and STATE_CHANGED is queued. -/
def State.endStartup (s : State) : State :=
  (s.updRun fun r => { r with part := .ready, selfTest := none }).notify (.stateChanged .ready .startup)

/-- R60: a reason entering the lockout set ends a held deferral: a capture's slot is abandoned, a self-test pulse is
not fired. -/
def State.endDeferral (s : State) : State :=
  match s.ring.deferral with
  | some d =>
    match d.target with
    | .capture i => (s.abandon i).closeIfIdle
    | .selfTest _ => s.updRing fun r => { r with deferral := none }
  | none => s

/-- R4, R71: a reason entering the lockout set ends the self-test; while a pulse is lit that the entry does not cut,
the self-test ends with that pulse (log 14). -/
def State.endSelfTest (s : State) : State :=
  if s.run.selfTest.isSome ∧ s.ring.strobe.isNone then s.endStartup else s

/-- R52: a reason's cause: its flag is raised and, if it is not there yet, it enters the lockout set, which cuts a
strobe (THERMAL), ends a deferral, ends a run, and ends the self-test. -/
def State.enterLockout (reason : LockoutReason) (s : State) : State :=
  let t := s.raise reason.condition
  if s.ring.lockout.holds reason then t
  else
    let u := t.updRing fun r => { r with lockout := r.lockout.put reason true }
    let v := if reason = .thermal then u.cutByTrip else u
    ((v.endDeferral).endRun reason.endReason).endSelfTest

/-- R79: the supply thresholds, in tenths of a volt. -/
def supplyThreshold (index : Nat) : Int :=
  150 + 10 * (index : Int)

/-- A reading is there and passes a test. -/
def readingIs (p : Int → Bool) : Option Int → Bool
  | some v => p v
  | none => false

/-- R53: the physical condition of a reason has ended, on the latest rest readings and the parameters now. A reading
not yet made does not show that it has (log 28). -/
def State.causeEnded (s : State) : LockoutReason → Bool
  | .thermal =>
    let below := readingIs fun v => decide (v < (s.param .thermalTripLevel : Int) - 10)
    below (s.monitor.rest.get 1) && below (s.monitor.rest.get 2) && below (s.monitor.rest.get 3)
  | .supply =>
    readingIs (fun v => decide (supplyThreshold (s.param .supplyLowLevel) + 10 ≤ v)) (s.monitor.rest.get 0)
  | .guard => true

/-- R53: a reason leaves the lockout set when its flag is clear and its cause has ended. -/
def State.testRelease (reason : LockoutReason) (s : State) : State :=
  let ended := !reason.condition.isIn s.line.conditions && s.causeEnded reason
  s.updRing fun r => { r with lockout := if ended then r.lockout.put reason false else r.lockout }

end Sys2Proof.Machine
end

