-- ==== Sys2Proof/Machine/Segments.lean ====
section
/-! DEFINITION. The segment table: ceilings (R37, R82), the ring budget (R78), SEGMENT_SET (R47 to R50) and
SEGMENT_REPORT (R51). -/

namespace Sys2Proof.Machine

/-- R82: the group ceiling of a thermal derate step. -/
def groupCeiling (step : Nat) : Nat :=
  if step < 6 then 255 - 32 * step else 64

/-- R37: the thermal group of a segment. -/
def groupOf (i : Fin 12) : Fin 3 :=
  ⟨i.val / 4, by omega⟩

/-- R78: the ring budget of a supply derate step. -/
def ringBudget (step : Nat) : Nat :=
  3060 - 384 * step

/-- R37: the effective ceiling of a segment record under its group's ceiling. -/
def Segment.ceiling (g : Segment) (group : Nat) : Nat :=
  match g.state with
  | .enabled => min g.hostCeiling group
  | .disabled | .faulted => 0

/-- One segment record. -/
def State.segmentAt (s : State) (i : Fin 12) : Segment :=
  s.ring.segments.get i

/-- R37: the effective ceiling of a segment, formed when it is read. -/
def State.effectiveCeiling (s : State) (i : Fin 12) : Nat :=
  (s.segmentAt i).ceiling (groupCeiling (s.monitor.thermalStep.get (groupOf i)))

/-- One segment record replaced. -/
def State.putSegment (i : Fin 12) (g : Segment) (s : State) : State :=
  s.updRing fun r => { r with segments := r.segments.set i g }

/-- R47, R51: a segment record as it is reported, with its effective ceiling. -/
def State.segmentReport (s : State) (i : Fin 12) : SegmentReport where
  segment := s.segmentAt i
  effectiveCeiling := s.effectiveCeiling i

/-- R47: what an action makes of a record; `none` is a refusal WRONG_STATE. -/
def State.segmentSet (known : Bool) (action : Segment → Option Segment) (body : List Byte) (s : State) : State :=
  match segmentOf (numberAt body 0 1) with
  | some i =>
    if known then
      match action (s.segmentAt i) with
      | some g =>
        let t := s.putSegment i g
        t.done (.segment (t.segmentReport i))
      | none => s.refuse .wrongState
    else s.refuse .badValue
  | none => s.refuse .badValue

/-- R48: ENABLE. -/
def Segment.enable (g : Segment) : Option Segment :=
  match g.state with
  | .disabled => some { g with state := .enabled }
  | .enabled => some g
  | .faulted => none

/-- R48: DISABLE; a FAULTED segment stays FAULTED. -/
def Segment.disable (g : Segment) : Option Segment :=
  match g.state with
  | .enabled => some { g with state := .disabled }
  | .disabled | .faulted => some g

/-- R49: ADMIT. -/
def Segment.admitFaulted (g : Segment) : Option Segment :=
  match g.state with
  | .faulted => some { g with state := .enabled, health := .untested, weakCount := 0, faultCount := 0 }
  | .enabled | .disabled => none

/-- R50: CEILING. -/
def Segment.putCeiling (value : Nat) (g : Segment) : Option Segment :=
  some { g with hostCeiling := value }

/-- The action code of a SEGMENT_SET body. -/
def actionOf (body : List Byte) : Nat := numberAt body 1 1

/-- SEGMENT_ENABLE (R48). -/
def execSegmentEnable (tag : Byte) (body : List Byte) (s : State) : Host.Outcome State Fault Refusal :=
  Event.run s (State.request .segmentSet tag body (codeNotOf [2, 3, 4] 1 body)
    (State.segmentSet (decide (actionOf body = 1)) Segment.enable body))

/-- SEGMENT_DISABLE (R48). -/
def execSegmentDisable (tag : Byte) (body : List Byte) (s : State) : Host.Outcome State Fault Refusal :=
  Event.run s (State.request .segmentSet tag body (codeNotOf [1, 3, 4] 1 body)
    (State.segmentSet (decide (actionOf body = 2)) Segment.disable body))

/-- SEGMENT_ADMIT (R49). -/
def execSegmentAdmit (tag : Byte) (body : List Byte) (s : State) : Host.Outcome State Fault Refusal :=
  Event.run s (State.request .segmentSet tag body (codeNotOf [1, 2, 4] 1 body)
    (State.segmentSet (decide (actionOf body = 3)) Segment.admitFaulted body))

/-- SEGMENT_CEILING (R50). -/
def execSegmentCeiling (tag : Byte) (body : List Byte) (s : State) : Host.Outcome State Fault Refusal :=
  Event.run s (State.request .segmentSet tag body (codeNotOf [1, 2, 3] 1 body)
    (State.segmentSet (decide (actionOf body = 4)) (Segment.putCeiling (numberAt body 2 1)) body))

/-- SEGMENT_REPORT (R51). -/
def execSegmentReport (tag : Byte) (body : List Byte) (s : State) : Host.Outcome State Fault Refusal :=
  Event.run s (State.request .segmentReport tag body true fun s =>
    s.done (.segments (Table.ofFn fun i => s.segmentReport i)))

end Sys2Proof.Machine
end

