-- ==== Sys2Proof/Machine/Balance.lean ====
section
/-! DEFINITION. The balance unit: the analysis of a frame (R89 to R98), its four requests (R99 to R102). -/

namespace Sys2Proof.Machine

/-! ## The zone map (R90 to R92) -/

/-- R90: the mean; absent when the sample count is 0. -/
def ZoneStat.mean (z : ZoneStat) : Option Nat :=
  if z.samples = 0 then none else some (z.sum / z.samples)

/-- R90: the clipped fraction in percent; absent when the sample count is 0. -/
def ZoneStat.clippedFraction (z : ZoneStat) : Option Nat :=
  if z.samples = 0 then none else some (100 * z.clipped / z.samples)

/-- A measure passes a test; an absent one passes none. -/
def measureIs (p : Nat → Bool) : Option Nat → Bool
  | some v => p v
  | none => false

/-- R91: the class of a zone. -/
def zoneClass (unlit : Bool) (z : ZoneStat) (glare void : Nat) : ZoneClass :=
  if unlit then .unlit
  else if z.samples = 0 then .void
  else if measureIs (fun v => decide (glare ≤ v)) z.clippedFraction then .glare
  else if measureIs (fun v => decide (v < void)) z.mean then .void
  else .normal

/-- R92: a value held between 128 and 1024. -/
def heldGain (n : Nat) : Nat := max 128 (min n 1024)

/-- R92: the residual gain of a zone. -/
def residualGain (cls : ZoneClass) (target : Nat) (mean : Option Nat) : Nat :=
  match cls with
  | .normal =>
    match mean with
    | some m => if m = 0 then 1024 else heldGain (target * 256 / m)
    | none => 256
  | .unlit | .glare | .void => 256

/-- The weight of segment `g` on zone `z` (R122). -/
def Profile.weight (p : Profile) (z : Fin 48) (g : Fin 12) : Nat :=
  (p.influence.get z).get g

/-- R91: no segment can light the zone. -/
def Profile.unlit (p : Profile) (z : Fin 48) : Bool :=
  (p.influence.get z).all fun w => w == 0

/-- R90 to R92: one zone record. -/
def zoneRecord (params : ParamTable) (p : Profile) (stats : Table 48 ZoneStat) (z : Fin 48) : ZoneRecord :=
  let stat := stats.get z
  let cls := zoneClass (p.unlit z) stat (params.value .glareFraction) (params.value .voidLevel)
  let target := params.value (Param.targetOf (z.val / 12))
  { samples := stat.samples
    mean := stat.mean
    clipped := stat.clippedFraction
    cls := cls
    target := target
    gain := residualGain cls target stat.mean }

/-- The statistics of a slot; all zero where there are none. -/
def Frame.zoneStats (f : Frame) : Table 48 ZoneStat :=
  f.stats.getD (Table.fill 48 ZoneStat.zero)

/-- R90: the zone map of a frame. -/
def State.zoneMapOf (s : State) (f : Frame) : ZoneMap where
  frame := f.number
  bank := f.bank
  profileId := ((s.engine.bank f.bank).profileId).getD f.profileId
  zones := Table.ofFn (zoneRecord s.line.params (s.engine.tables f.bank) f.zoneStats)

/-! ## Ratios and energies (R93 to R95) -/

/-- R93: the two sums of a segment, and whether a NORMAL zone with a weight above 0 exists. -/
structure Ratio where
  numerator : Nat
  denominator : Nat
  zones : Nat
deriving DecidableEq, Repr

/-- R93: one zone's part in the sums of a segment. -/
def Ratio.add (r : Ratio) (w : Nat) (z : ZoneRecord) : Ratio :=
  if z.cls = .normal ∧ 0 < w then
    { numerator := r.numerator + w * z.target
      denominator := r.denominator + w * z.mean.getD 0
      zones := r.zones + 1 }
  else r

/-- R93: the sums of segment `g` over a zone map. -/
def ratioOf (p : Profile) (zones : Table 48 ZoneRecord) (g : Fin 12) : Ratio :=
  (List.finRange 48).foldl (init := { numerator := 0, denominator := 0, zones := 0 })
    fun r z => r.add (p.weight z g) (zones.get z)

/-- R93: the segment is observed. -/
def Ratio.observed (r : Ratio) : Bool :=
  decide (0 < r.zones) && decide (0 < r.denominator)

/-- R93: the ratio is above the upper bound of the step limit. -/
def Ratio.above (r : Ratio) (limit : Nat) : Bool :=
  decide ((100 + limit) * r.denominator < 100 * r.numerator)

/-- R93: the ratio is below the lower bound of the step limit. -/
def Ratio.below (r : Ratio) (limit : Nat) : Bool :=
  decide ((100 + limit) * r.numerator < 100 * r.denominator)

/-- R94, step 3: a base times the clamped ratio, rounded down. -/
def Ratio.times (r : Ratio) (limit base : Nat) : Nat :=
  if r.observed then
    if r.above limit then base * (100 + limit) / 100
    else if r.below limit then base * 100 / (100 + limit)
    else base * r.numerator / r.denominator
  else base

/-- R94: the greatest energy request. -/
def greatestEnergy : Nat := 1020000

/-- R94: the base of a segment: its delivered energy, or D when it was dark. -/
def revisionBase (level d : Nat) : Nat :=
  if level = 0 then d else level * d

/-- R94: the new energy request of an ENABLED segment. -/
def revisedEnergy (r : Ratio) (limit level d : Nat) : Nat :=
  min greatestEnergy (r.times limit (revisionBase level d))

/-- R95: the ratio in thousandths. -/
def Ratio.thousandths (r : Ratio) : Nat :=
  if r.observed then min 65535 (1000 * r.numerator / r.denominator) else 1000

/-- R95: the verdict of a segment. -/
def verdictOf (limit : Nat) (g : Segment) (r : Ratio) : Verdict :=
  match g.state with
  | .enabled =>
    { standing := if r.observed then .observed else .unobserved
      ratio := some r.thousandths
      clamped := some (r.observed && (r.above limit || r.below limit))
      saturatedLast := g.saturatedLast }
  | .disabled | .faulted =>
    { standing := .notEnabled, ratio := none, clamped := none, saturatedLast := g.saturatedLast }

/-- A segment and its sums at an analysis. -/
structure Judged where
  segment : Segment
  ratio : Ratio
deriving DecidableEq, Repr

/-- R93: a segment takes part in the judgment: ENABLED and observed. -/
def Judged.observed (j : Judged) : Bool :=
  decide (j.segment.state = .enabled) && j.ratio.observed

/-- R93: the segments at an analysis, with their sums. -/
def State.judgedSegments (s : State) (f : Frame) (m : ZoneMap) : Table 12 Judged :=
  Table.ofFn fun g => { segment := s.segmentAt g, ratio := ratioOf (s.engine.tables f.bank) m.zones g }

/-- R94, R95: the energy requests after a revising analysis. -/
def revisedEnergies (limit : Nat) (d : StrobeData) (judged : Table 12 Judged) (old : Table 12 Nat) : Table 12 Nat :=
  Table.ofFn fun g =>
    match (judged.get g).segment.state with
    | .enabled => revisedEnergy (judged.get g).ratio limit (d.levels.get g) d.duration
    | .disabled | .faulted => old.get g

/-! ## The judgment (R97, R98) -/

/-- R97, step 1: the frame is saturated. -/
def saturatedFrame (band : Nat) (judged : Table 12 Judged) : Bool :=
  judged.any fun j => j.observed && j.segment.saturatedLast &&
    decide ((100 + band) * j.ratio.denominator < 100 * j.ratio.numerator)

/-- R97, step 3: an unclamped ratio lies within SETTLE_BAND percent of 1. -/
def Ratio.inBand (r : Ratio) (band : Nat) : Bool :=
  decide ((100 - band) * r.denominator ≤ 100 * r.numerator) &&
    decide (100 * r.numerator ≤ (100 + band) * r.denominator)

/-- R97, step 3: the frame is in band. -/
def inBandFrame (band : Nat) (judged : Table 12 Judged) : Bool :=
  judged.all fun j => !j.observed || j.ratio.inBand band

/-- The balance state and the settle count. -/
structure Standings where
  state : BalanceState
  settle : Nat
deriving DecidableEq, Repr

/-- R97, step 3: the band test. -/
def Standings.banded (inBand : Bool) (b : Standings) : Standings :=
  match b.state with
  | .settling =>
    if inBand then
      if 3 ≤ b.settle + 1 then { state := .settled, settle := 3 } else { b with settle := b.settle + 1 }
    else { b with settle := 0 }
  | .settled => if inBand then b else { state := .settling, settle := 0 }
  | _ => b

/-- R97: COLD first becomes SETTLING. -/
def Standings.warmed (b : Standings) : Standings :=
  if b.state = .cold then { b with state := .settling } else b

/-- R97, step 1: a frame that is not saturated leaves SATURATED for SETTLING. -/
def Standings.relieved (b : Standings) : Standings :=
  if b.state = .saturated then { b with state := .settling } else b

/-- R97, R98: the balance state after the judgment of an analysed frame. -/
def Standings.judge (saturated observed inBand : Bool) (b : Standings) : Standings :=
  let w := b.warmed
  if saturated then
    if w.state = .saturated then w else { state := .saturated, settle := 0 }
  else if observed then w.relieved.banded inBand
  else w.relieved

/-- R97, R98: the judgment; BALANCE_SATURATED is raised at each entry to SATURATED. -/
def State.judge (judged : Table 12 Judged) (s : State) : State :=
  let band := s.param .settleBand
  let saturated := saturatedFrame band judged
  let after := Standings.judge saturated (judged.any Judged.observed) (inBandFrame band judged)
    { state := s.balance.state, settle := s.balance.settle }
  let t := s.updBalance fun u => { u with state := after.state, settle := after.settle }
  if after.state = .saturated ∧ s.balance.state ≠ .saturated then t.raise .balanceSaturated else t

/-! ## The analysis (R89) -/

/-- R89: what the slot recorded at its strobe start; a slot read out always has it. -/
def Frame.strobeData (f : Frame) : StrobeData :=
  f.strobe.getD { speed := 0, duration := 20, levels := Table.fill 12 0 }

/-- R92: the residual gains written into the slot. -/
def State.writeGains (i : Fin 6) (gains : Table 48 Nat) (s : State) : State :=
  s.modifyFrame i fun f => { f with gains := some gains }

/-- R89: zone map, gains and verdicts formed from a frame that is not CUT. -/
def State.formMap (i : Fin 6) (f : Frame) (s : State) : State :=
  let m := s.zoneMapOf f
  let judged := s.judgedSegments f m
  let limit := s.param .stepLimit
  let t := s.writeGains i (m.zones.map ZoneRecord.gain)
  t.updBalance fun u => { u with
    zoneMap := some m
    verdicts := some (judged.map fun j => verdictOf limit j.segment j.ratio) }

/-- R89, third case: the energies are revised and the balance state judged. -/
def State.revise (f : Frame) (s : State) : State :=
  let judged := s.judgedSegments f (s.zoneMapOf f)
  let limit := s.param .stepLimit
  (s.updBalance fun u =>
    { u with energies := revisedEnergies limit f.strobeData judged u.energies }).judge judged

/-- R89: the stale frame reaches analysis and becomes absent. -/
def State.clearStale (number : Nat) (s : State) : State :=
  s.updBalance fun u => { u with stale := if u.stale = some number then none else u.stale }

/-- R89: the analysis of a frame read out, in one of its three cases. -/
def State.analyse (i : Fin 6) (s : State) : State :=
  match s.frameAt i with
  | some f =>
    if f.flags.cut then (s.writeGains i (Table.fill 48 256)).clearStale f.number
    else if s.balance.stale = some f.number ∨ s.balance.state = .held then (s.formMap i f).clearStale f.number
    else (s.formMap i f).revise f
  | none => s

/-! ## The requests (R99 to R102) -/

/-- R100: BALANCE_RELEASE. -/
def State.balanceRelease (s : State) : State :=
  if s.balance.state = .held then
    (s.updBalance fun u => { u with state := .settling, settle := 0 }).done .nothing
  else s.refuse .wrongState

/-- R101: the frame that becomes stale at a restart: that of a slot EXPOSING or READING. -/
def State.litFrame (s : State) : Option Nat :=
  match s.slotIn (fun p => decide (p = .exposing ∨ p = .reading)) with
  | some i => (s.frameAt i).map Frame.number
  | none => none

/-- R101, R96: BALANCE_RESTART. -/
def State.balanceRestart (s : State) : State :=
  let stale := s.litFrame
  ((s.enterCold).updBalance fun u => { u with stale := stale }).done .nothing

/-- R102: the snapshot ZONE_REPORT carries. -/
def BalanceUnit.report (u : BalanceUnit) : ZoneReport where
  state := u.state
  settle := u.settle
  stale := u.stale
  energies := u.energies
  zoneMap := u.zoneMap
  verdicts := u.verdicts

/-- BALANCE_HOLD (R99). -/
def execBalanceHold (tag : Byte) (body : List Byte) (s : State) : Host.Outcome State Fault Refusal :=
  Event.run s (State.request .balanceHold tag body true fun s =>
    (s.updBalance fun u => { u with state := .held }).done .nothing)

/-- BALANCE_RELEASE (R100). -/
def execBalanceRelease (tag : Byte) (body : List Byte) (s : State) : Host.Outcome State Fault Refusal :=
  Event.run s (State.request .balanceRelease tag body true State.balanceRelease)

/-- BALANCE_RESTART (R101). -/
def execBalanceRestart (tag : Byte) (body : List Byte) (s : State) : Host.Outcome State Fault Refusal :=
  Event.run s (State.request .balanceRestart tag body true State.balanceRestart)

/-- ZONE_REPORT (R102). -/
def execZoneReport (tag : Byte) (body : List Byte) (s : State) : Host.Outcome State Fault Refusal :=
  Event.run s (State.request .zoneReport tag body true fun s => s.done (.zones s.balance.report))

end Sys2Proof.Machine
end

