-- ==== Sys2Proof/Machine/Geometry.lean ====
section
/-! DEFINITION. Where a point of the raw frame lies: ring, sector and zone (R112, R131). -/

namespace Sys2Proof.Machine

/-- The sines of 0 to 90 whole degrees times 2^64, rounded to the nearest whole number. -/
def sineTable : List Nat :=
  [
    0, 321940075018930070, 643782083972305837, 965427990666446557,
    1286779818642319329, 1607739681020117646, 1928209810316553226, 2248092588225778524,
    2567290575354868340, 2885706540904802817, 3203243492287910726, 3519804704672751252,
    3835293750447434651, 4149614528592406941, 4462671293953751414, 4774368686408090022,
    5084611759910200732, 5393306011414502663, 5700357409661599243, 6005672423821110721,
    6309158051982071155, 6610721849482211423, 6910271957067498877, 7207717128873355989,
    7502966760219034614, 7795930915206679458, 8086520354116673787, 8374646560590922514,
    8660221768595792345, 8943158989156495841, 9223372036854775808] ++
  [
    9500775556081818606, 9775285047038399446, 10046816891474339802, 10315288378159436446,
    10580617728078103408, 10842724119340052334, 11101527711799423208, 11356949671374866210,
    11608912194063166579, 11857338529639097693, 12102153005034283173, 12343281047387946570,
    12580649206762527161, 12814185178517242456, 13043817825332782212, 13269477198880425016,
    13491094561128976817, 13708602405283041112, 13921934476346242775, 14131025791303141777,
    14335812658913689198, 14536232699114195931, 14732224862018904379, 14923729446516375051,
    15110688118455023452, 15293043928412267748, 15470741329041874563, 15643726191994218747,
    15811945824404303021, 15975348984942515102] ++
  [
    16133885899423233090, 16287508275966524584, 16436169319708321120, 16579823747054587077,
    16718427799475141098, 16851939256832928277, 16980317450244682903, 17103523274469064271,
    17221519199818492015, 17334269283591052503, 17441739181018994027, 17543896155730475763,
    17640709089721383757, 17732148492834176429, 17818186511740872234, 17898796938427443188,
    17973955218177029824, 18043638457049545813, 18107825428855393894, 18166496581621168848,
    18219634043545378001, 18267221628442365087, 18309244840672779197, 18345690879559086948,
    18376548643284782866, 18401808732276110234, 18421463452065262316, 18435506815634191792,
    18443934545238314447, 18446744073709551616]

/-- The sine of whole degrees, times 2^64. -/
def sine (degrees : Nat) : Int :=
  let d := degrees % 360
  if d ≤ 90 then (sineTable.getD d 0 : Int)
  else if d ≤ 180 then (sineTable.getD (180 - d) 0 : Int)
  else if d ≤ 270 then -(sineTable.getD (d - 180) 0 : Int)
  else -(sineTable.getD (360 - d) 0 : Int)

/-- The cosine of whole degrees, times 2^64. -/
def cosine (degrees : Nat) : Int :=
  sine (degrees + 90)

/-- A displacement (`dx` right, `dy` down, not both 0) lies on the ray at `degrees` clockwise from up, or less than
180 degrees clockwise of it. The sign is that of the exact value: displacements reach 20,480 in each direction, for
which the exact value, when it is not 0, is over 5·10^-7 in size, and the table's error is below 20,480 · 2^-64
(log 11). -/
def fromRayOn (degrees : Nat) (dx dy : Int) : Bool :=
  let cross := sine degrees * dy + cosine degrees * dx
  decide (0 < cross) || (decide (cross = 0) && decide (0 < sine degrees * dx - cosine degrees * dy))

/-- The sector of a displacement (R112): floor(((angle - offset) mod 360) / 30), a boundary belonging to the sector
clockwise of it, and the centre itself taking angle 0. -/
def sectorOf (offset : Nat) (dx dy : Int) : Nat :=
  if dx = 0 ∧ dy = 0 then (360 - offset % 360) % 360 / 30
  else
    ((List.range 12).find? fun k =>
      fromRayOn (offset + 30 * k) dx dy && !fromRayOn (offset + 30 * (k + 1)) dx dy).getD 0

/-- The ring of a squared distance, radii in the distance's unit; `none` at or beyond the outermost (R112). -/
def ringOf (r1 r2 r3 r4 d2 : Nat) : Option Nat :=
  if d2 < r1 * r1 then some 0
  else if d2 < r2 * r2 then some 1
  else if d2 < r3 * r3 then some 2
  else if d2 < r4 * r4 then some 3
  else none

/-- A zone number is the ring times 12 plus the sector. -/
def zoneNumber (ring sector : Nat) : Fin 48 :=
  Fin.ofNat 48 (12 * ring + sector)

/-- The squared length of a displacement. -/
def squaredLength (dx dy : Int) : Nat :=
  (dx * dx + dy * dy).toNat

/-- R112: the zone of the cell of the sample at column `x` and line `y`, found from the cell's centre, one pixel right
of and one pixel below its top-left corner; `none` when the cell is not gathered. -/
def Geometry.zoneOfSample (g : Geometry) (x y : Nat) : Option (Fin 48) :=
  let dx : Int := ((2 * (x / 2) + 1 : Nat) : Int) - (g.cx : Int)
  let dy : Int := ((2 * (y / 2) + 1 : Nat) : Int) - (g.cy : Int)
  match ringOf g.r1 g.r2 g.r3 g.r4 (squaredLength dx dy) with
  | some ring => some (zoneNumber ring (sectorOf g.offset dx dy))
  | none => none

/-- R131: the zone of a source point in sixteenths of a raw pixel; a point at or beyond r4 takes ring 3. -/
def Geometry.zoneOfPoint (g : Geometry) (x y : Int) : Fin 48 :=
  let dx : Int := x - 16 * (g.cx : Int)
  let dy : Int := y - 16 * (g.cy : Int)
  let ring := (ringOf (16 * g.r1) (16 * g.r2) (16 * g.r3) (16 * g.r4) (squaredLength dx dy)).getD 3
  zoneNumber ring (sectorOf g.offset dx dy)

end Sys2Proof.Machine
end

