-- ==== Sys2Proof/Machine/Correction.lean ====
section
/-! DEFINITION. The correction engine: source points, colour and gain of a tile's pixels (R129 to R131), and the
completion of a tile (R132). -/

namespace Sys2Proof.Machine

/-- R129: the source coordinate weighted from a tile's four mesh points, rounded toward minus infinity. -/
def weighted (u v : Nat) (topLeft topRight bottomLeft bottomRight : Int) : Int :=
  let a : Int := 64 - (u : Int)
  let c : Int := 64 - (v : Int)
  Int.fdiv (a * c * topLeft + (u : Int) * c * topRight + a * (v : Int) * bottomLeft +
    (u : Int) * (v : Int) * bottomRight) 4096

/-- A mesh point, by row and column (R122). -/
def Profile.meshAt (p : Profile) (i j : Nat) : MeshPoint :=
  (p.mesh.get (Fin.ofNat 13 i)).get (Fin.ofNat 17 j)

/-- R129: the source point of the output pixel at (`u`, `v`) within tile `t`. -/
def Profile.sourcePoint (p : Profile) (t u v : Nat) : MeshPoint :=
  let r := t / 16
  let c := t % 16
  let topLeft := p.meshAt r c
  let topRight := p.meshAt r (c + 1)
  let bottomLeft := p.meshAt (r + 1) c
  let bottomRight := p.meshAt (r + 1) (c + 1)
  { x := weighted u v topLeft.x topRight.x bottomLeft.x bottomRight.x
    y := weighted u v topLeft.y topRight.y bottomLeft.y bottomRight.y }

/-- R129: the source point is inside the raw frame. -/
def MeshPoint.inside (q : MeshPoint) : Bool :=
  decide (0 ≤ q.x) && decide (q.x < 20480) && decide (0 ≤ q.y) && decide (q.y < 16384)

/-- The raw sample at column `x` and line `y`; a readout that completed has them all (log 24). -/
def Frame.sampleAt (f : Frame) (x y : Nat) : Nat :=
  ((f.raw.getD y []).getD x 0).toNat

/-- R130: red, green and blue of the cell of an anchor, 0 to 1023 each. -/
def Frame.colour (f : Frame) (x y : Nat) : Nat × Nat × Nat :=
  let cx := 2 * (x / 2)
  let cy := 2 * (y / 2)
  let green :=
    if x % 2 = y % 2 then f.sampleAt x y else (f.sampleAt cx cy + f.sampleAt (cx + 1) (cy + 1)) / 2
  (f.sampleAt (cx + 1) cy, green, f.sampleAt cx (cy + 1))

/-- R131: the gain of a zone. -/
def pixelGain (shading residual : Nat) : Nat :=
  max 64 (min (shading * residual / 256) 2048)

/-- R131: a colour value under a gain, at most 255. -/
def gained (value gain : Nat) : Byte :=
  BitVec.ofNat 8 (min 255 (value * gain / 1024))

/-- R131: the residual gain of a zone in a slot; a frame in correction always has its gains. -/
def Frame.residual (f : Frame) (z : Fin 48) : Nat :=
  (f.gains.getD (Table.fill 48 256)).get z

/-- R130, R131: the pixel of a source point; one outside the raw frame is black. -/
def Frame.pixelAt (f : Frame) (p : Profile) (q : MeshPoint) : Pixel :=
  if q.inside then
    let (red, green, blue) := f.colour (q.x.toNat / 16) (q.y.toNat / 16)
    let z := p.geometry.zoneOfPoint q.x q.y
    let g := pixelGain (p.shading.get z) (f.residual z)
    { red := gained red g, green := gained green g, blue := gained blue g }
  else { red := 0, green := 0, blue := 0 }

/-- R129: the 4,096 pixel places of a tile, row by row from its top-left. -/
def tilePlaces : List (Nat × Nat) :=
  (List.range 64).flatMap fun v => (List.range 64).map fun u => (u, v)

/-- R129 to R131: the pixels of tile `t`. -/
def Frame.tile (f : Frame) (p : Profile) (t : Nat) : List Pixel :=
  tilePlaces.map fun w => f.pixelAt p (p.sourcePoint t w.1 w.2)

/-- R130: some pixel of tile `t` has its source point outside the raw frame. -/
def Profile.tileIsPartial (p : Profile) (t : Nat) : Bool :=
  tilePlaces.any fun w => !(p.sourcePoint t w.1 w.2).inside

/-- R132, steps 1 and 2: the tile is written and counted, and may make the frame PARTIAL. -/
def Frame.withTile (p : Profile) (t : Nat) (f : Frame) : Frame :=
  { f with
    tiles := f.tiles ++ [f.tile p t]
    tilesDone := f.tilesDone + 1
    flags := { f.flags with partialPicture := f.flags.partialPicture || p.tileIsPartial t } }

/-- R119: what FRAME_READY carries. -/
def Frame.notice (f : Frame) (i : Fin 6) : FrameNotice where
  slot := i
  number := f.number
  run := f.run
  source := f.source
  position := f.position
  speed := (f.strobe.map StrobeData.speed).getD 0
  duration := (f.strobe.map StrobeData.duration).getD 0
  profileId := f.profileId
  flags := f.flags

/-- R128, R132: the slot in hand becomes absent, and the engine takes the queue head. -/
def State.freeEngine (s : State) : State :=
  (s.updEngine fun e => { e with hand := none }).engineTake

/-- R132, step 4: the frame is READY: its reference ends and FRAME_READY is queued. -/
def State.finishFrame (i : Fin 6) (f : Frame) (s : State) : State :=
  let t := s.putFrame i (some { f with state := .ready })
  (((t.updEngine (EngineState.endReference f.bank)).notify (.frameReady (f.notice i)))).freeEngine

/-- R132: the completion of tile `t` of slot `i`, whose frame now has the tile. -/
def State.afterTile (i : Fin 6) (t : Nat) (f : Frame) (s : State) : State :=
  if f.abandon then (s.discard i).freeEngine
  else if t = 191 then s.finishFrame i f
  else s.updEngine fun e => { e with hand := some (i, t + 1) }

/-- R132: a tile is complete; without a slot in hand there is none. -/
def State.tileCompleted (s : State) : State :=
  match s.engine.hand with
  | some (i, t) =>
    match s.frameAt i with
    | some f =>
      let g := f.withTile (s.engine.tables f.bank) t
      (s.putFrame i (some g)).afterTile i t g
    | none => s
  | none => s

/-- TILE_COMPLETION (R132). -/
def execTileCompletion (s : State) : Host.Outcome State Fault Refusal :=
  Event.run s State.tileCompleted

end Sys2Proof.Machine
end

