-- ==== Sys2Proof/Machine/Frames.lean ====
section
/-! DEFINITION. RELEASE_FRAME (R117, R118) and SLOT_REPORT (R120). -/

namespace Sys2Proof.Machine

/-- The slot and the frame number a body names (section 12.2). -/
def frameNumberOf (body : List Byte) : Nat := numberAt body 1 4

/-- The frame of a slot, when it has the number given (R117, R137, R143). -/
def State.namedFrame (s : State) (i : Fin 6) (number : Nat) : Option Frame :=
  match s.frameAt i with
  | some f => if f.number = number then some f else none
  | none => none

/-- R117: a release of a frame that is there, by the slot's state. -/
def State.releaseNamed (i : Fin 6) (f : Frame) (s : State) : State :=
  match f.state with
  | .armed | .exposing | .reading | .sending => s.refuse .busy
  | .waiting =>
    let t := s.updFrames fun r => { r with queue := r.queue.filter fun j => decide (j ≠ i) }
    (t.discard i).done (.release .freed)
  | .correcting =>
    (s.modifyFrame i fun f => { f with abandon := true }).done (.release .abandonPending)
  | .ready | .held | .sent => (s.discard i).done (.release .freed)

/-- R117: RELEASE_FRAME. -/
def State.releaseFrame (body : List Byte) (s : State) : State :=
  match slotOf (numberAt body 0 1) with
  | some i =>
    match s.namedFrame i (frameNumberOf body) with
    | some f => s.releaseNamed i f
    | none => s.refuse .stale
  | none => s.refuse .badValue

/-- R120: what SLOT_REPORT carries of a frame. -/
def Frame.summary (f : Frame) : SlotSummary where
  state := f.state
  number := f.number
  run := f.run
  source := f.source
  position := f.position
  bank := f.bank
  profileId := f.profileId
  flags := f.flags
  tilesDone := f.tilesDone
  nextUnsent := f.nextUnsent
  abandon := f.abandon
  strobe := f.strobe

/-- R120: the snapshot SLOT_REPORT carries. -/
def FrameStore.report (f : FrameStore) : SlotReport where
  nextFrame := f.nextFrame
  queue := f.queue
  slots := f.slots.map fun o => o.map Frame.summary

/-- RELEASE_FRAME (R117). -/
def execReleaseFrame (tag : Byte) (body : List Byte) (s : State) : Host.Outcome State Fault Refusal :=
  Event.run s (State.request .releaseFrame tag body true (State.releaseFrame body))

/-- SLOT_REPORT (R120). -/
def execSlotReport (tag : Byte) (body : List Byte) (s : State) : Host.Outcome State Fault Refusal :=
  Event.run s (State.request .slotReport tag body true fun s => s.done (.slots s.frames.report))

end Sys2Proof.Machine
end

