-- ==== Sys2Proof/Config.lean ====
section
/-! DEFINITION. What one part fixes and the manual does not give: the identity values, and the bytes an interrupted
erase or programming leaves. Each is a constant with no body, so nothing can be proved of its value. -/

namespace Sys2Proof

/-- The sizes R173 has for a number whose size is not given. -/
inductive FieldSize where
  | one | two | four
deriving DecidableEq, Repr, Inhabited

/-- The bytes of a field of this size. -/
def FieldSize.bytes : FieldSize → Nat
  | .one => 1 | .two => 2 | .four => 4

/-- One identity value: a number of 1, 2 or 4 bytes, of which the manual gives neither size nor value (log 8). -/
structure IdentityCode where
  size : FieldSize
  value : BitVec 32
deriving DecidableEq, Repr, Inhabited

/-- The values IDENTIFY carries (R169). Vendor, part and revision are fixed in the part; serial number and build code
stand in the identity area of the profile store (R147), which no request writes. -/
structure Identity where
  vendor : IdentityCode
  part : IdentityCode
  revision : IdentityCode
  serial : IdentityCode
  build : IdentityCode
deriving DecidableEq, Repr, Inhabited

/-- The identity of this part (R169). FREE: log 8. -/
opaque Config.identity : Identity

/-- Byte `offset` of the area that the `n`-th interrupted erase or programming left (R148: an area caught in the
middle of either phase). FREE: log 9. -/
opaque Config.disturbedByte : Nat → Nat → Byte

end Sys2Proof
end

