-- ==== Sys2Proof/Machine/Wire.lean ====
section
/-! DEFINITION. The bytes of every message the part sends: replies (R175), notices and tiles (section 12.4), encoded by
R173. Where R173 leaves a choice, log 16 and log 17 say which was taken. -/

namespace Sys2Proof.Machine

/-! ## Fields (R173) -/

/-- One byte. -/
def byteOf (n : Nat) : List Byte := bytesOf 1 n

/-- Yes or no. -/
def yesNo (v : Bool) : List Byte := byteOf v.toNat

/-- A field that can hold 0 and can be absent: a presence byte, then its bytes or as many zeros. -/
def maybe (n : Nat) : Option Nat → List Byte
  | some v => byteOf 1 ++ bytesOf n v
  | none => byteOf 0 ++ bytesOf n 0

/-- The same for a signed field. -/
def maybeSigned (n : Nat) : Option Int → List Byte
  | some v => byteOf 1 ++ signedBytes n v
  | none => byteOf 0 ++ bytesOf n 0

/-- A field that cannot hold 0: 0 says that it is absent. -/
def orZero (n : Nat) (o : Option Nat) : List Byte := bytesOf n (o.getD 0)

/-- Every entry of a table, in order. -/
def each {n : Nat} {α : Type} (t : Table n α) (f : α → List Byte) : List Byte :=
  t.items.flatMap f

/-- A set of conditions: 4 bytes. -/
def conditionBytes (set : BitVec 20) : List Byte := bytesOf 4 set.toNat

/-- A slot's state: 1 is FREE. -/
def slotStateBytes (o : Option FrameState) : List Byte :=
  byteOf ((o.map FrameState.code).getD 1)

/-! ## Records of the reports -/

/-- The run record in STATUS (R6, R169); an absent record is sent as zeros. -/
def runRecordBytes : Option RunRecord → List Byte
  | some r =>
    bytesOf 4 r.number ++ byteOf r.mode.code ++ bytesOf 2 r.requested ++ wordBytes r.captured ++
      wordBytes r.skipped ++ wordBytes r.startPosition ++ maybe 4 (r.endPosition.map BitVec.toNat) ++
      orZero 1 (r.endReason.map EndReason.code)
  | none => bytesOf 25 0

/-- A segment record, the fields in the order of R36. -/
def segmentBytes (r : SegmentReport) : List Byte :=
  byteOf r.segment.state.code ++ byteOf r.segment.health.code ++ byteOf r.segment.hostCeiling ++
    byteOf r.effectiveCeiling ++ byteOf r.segment.lastLevel ++ yesNo r.segment.saturatedLast ++
    byteOf r.segment.weakCount ++ byteOf r.segment.faultCount ++ wordBytes r.segment.strobeCount

/-- MONITOR_REPORT (R85). -/
def monitorBytes (r : MonitorReport) : List Byte :=
  each r.rest (maybeSigned 2) ++
    (match r.lastStrobe with
      | some (v, frame) => byteOf 1 ++ bytesOf 2 v ++ bytesOf 4 frame
      | none => byteOf 0 ++ bytesOf 6 0) ++
    byteOf r.supplyStep ++ byteOf r.droopFree ++ byteOf r.lowStreak ++ bytesOf 2 r.ringBudget ++
    each r.groups (fun g => byteOf g.1 ++ byteOf g.2) ++ orZero 1 r.resolution

/-- A zone record, the fields in the order of R88. -/
def zoneBytes (z : ZoneRecord) : List Byte :=
  bytesOf 4 z.samples ++ maybe 2 z.mean ++ maybe 1 z.clipped ++ byteOf z.cls.code ++ bytesOf 2 z.target ++
    bytesOf 2 z.gain

/-- The zone map with its header (R88); an absent map is sent as zeros. -/
def zoneMapBytes : Option ZoneMap → List Byte
  | some m => bytesOf 4 m.frame ++ byteOf m.bank.code ++ byteOf m.profileId ++ each m.zones zoneBytes
  | none => bytesOf 678 0

/-- A segment verdict, the fields in the order of R95. A ratio is never 0 (targets are 64 at least, means 1,023 at most:
R92, R93, R168), so an absent one is sent as 0 (R173). -/
def verdictBytes (v : Verdict) : List Byte :=
  byteOf v.standing.code ++ orZero 2 v.ratio ++ maybe 1 (v.clamped.map Bool.toNat) ++ yesNo v.saturatedLast

/-- The verdicts; absent ones are sent as zeros. -/
def verdictsBytes : Option (Table 12 Verdict) → List Byte
  | some t => each t verdictBytes
  | none => bytesOf 72 0

/-- ZONE_REPORT (R102). -/
def zoneReportBytes (r : ZoneReport) : List Byte :=
  byteOf r.state.code ++ byteOf r.settle ++ orZero 4 r.stale ++ each r.energies (bytesOf 4) ++
    zoneMapBytes r.zoneMap ++ verdictsBytes r.verdicts

/-- What a slot received at its strobe start: speed, D, levels used, absent while ARMED (R120). -/
def strobeDataBytes : Option StrobeData → List Byte
  | some d => maybe 2 (some d.speed) ++ bytesOf 2 d.duration ++ byteOf 1 ++ each d.levels byteOf
  | none => maybe 2 none ++ bytesOf 2 0 ++ byteOf 0 ++ bytesOf 12 0

/-- One slot of SLOT_REPORT (R120), in the order of its fields there. All but the state are absent in a FREE slot
(R105): the codes and numbers that cannot be 0 are then 0, and the others have a presence byte (R173, log 16). The strobe
data, a fourth item of R120 after the item on the six slots, ends the slot's own record: R120 and R175 do not say whether
it stands there or after all six slots (log 37). -/
def slotBytes (o : Option SlotSummary) : List Byte :=
  slotStateBytes (o.map SlotSummary.state) ++
    orZero 4 (o.map SlotSummary.number) ++
    orZero 4 (o.bind SlotSummary.run) ++
    orZero 1 (o.map fun f => f.source.code) ++
    maybe 4 (o.map fun f => f.position.toNat) ++
    orZero 1 (o.map fun f => f.bank.code) ++
    maybe 1 (o.map SlotSummary.profileId) ++
    maybe 2 (o.map fun f => f.flags.code) ++
    maybe 1 (o.map SlotSummary.tilesDone) ++
    maybe 1 (o.map SlotSummary.nextUnsent) ++
    maybe 1 (o.map fun f => f.abandon.toNat) ++
    strobeDataBytes (o.bind SlotSummary.strobe)

/-- SLOT_REPORT (R120). -/
def slotReportBytes (r : SlotReport) : List Byte :=
  bytesOf 4 r.nextFrame ++ byteOf r.queue.length ++ r.queue.flatMap (fun i => byteOf i.val) ++
    each r.slots slotBytes

/-- A bank in STATUS (R169). -/
def bankBytes (k : BankReport) : List Byte :=
  byteOf k.state.code ++ maybe 1 k.profileId ++ byteOf k.references

/-- STATUS, the items in the order of R169. -/
def statusBytes (r : StatusReport) : List Byte :=
  byteOf r.part.code ++ runRecordBytes r.run ++ conditionBytes r.conditions ++ byteOf r.lockout.code ++
    byteOf r.balance.code ++ each r.slots slotStateBytes ++ bankBytes r.bankA ++ bankBytes r.bankB ++
    orZero 1 (r.operation.map fun o => o.1.code) ++ orZero 1 (r.operation.map fun o => o.2.code) ++
    bytesOf 2 r.speed ++ byteOf r.method.code ++ byteOf r.direction.code ++ wordBytes r.position ++
    orZero 2 r.countdown ++ maybeSigned 2 r.supply ++ each r.temperatures (maybeSigned 2)

/-- A directory entry, the fields in the order of R147. -/
def dirEntryBytes (e : DirEntry) : List Byte :=
  byteOf e.code ++
    (match e with
      | .valid h =>
        maybe 1 (some h.lens) ++ bytesOf 2 h.boreMin ++ bytesOf 2 h.boreMax ++ byteOf 1 ++ h.label ++
          bytesOf 2 recordLength
      | _ => maybe 1 none ++ bytesOf 2 0 ++ bytesOf 2 0 ++ byteOf 0 ++ bytesOf 16 0 ++ bytesOf 2 0)

/-- The area an operation works on; a protect write has none (R156). For an erase of ALL that is the area whose turn it
is: R156 says only "its area" (log 34). -/
def OperationKind.area : OperationKind → Option Nat
  | .commit i => some (i.val + 1)
  | .erase i => some (i.val + 1)
  | .eraseAll i => some (i.val + 1)
  | .protect _ => none

/-- The operation in progress in STORE_DIRECTORY (R156). -/
def operationBytes : Option Operation → List Byte
  | some o =>
    byteOf o.kind.code ++ orZero 1 o.kind.area ++ byteOf o.phase.code ++
      yesNo (decide (o.suspension = .suspended)) ++ byteOf o.count
  | none => bytesOf 5 0

/-- STORE_DIRECTORY (R156). The level of WPROT and the permit latch are sent as yes or no: R173 does not say whether
they are that or named values counted from 1 (log 36). -/
def directoryBytes (r : DirectoryReport) : List Byte :=
  each r.entries dirEntryBytes ++ bytesOf 2 r.protectSet.toNat ++ yesNo r.lockdown ++ yesNo r.wprot ++
    yesNo r.permit ++ operationBytes r.operation ++
    orZero 1 (r.lastResult.map fun t => t.1.code) ++ maybe 1 (r.lastResult.map fun t => t.2.toNat)

/-- An identity value in its own size (R173, log 8). -/
def identityCodeBytes (c : IdentityCode) : List Byte :=
  bytesOf c.size.bytes c.value.toNat

/-- IDENTIFY (R169): the identity values, then the store's geometry, sixteen areas of 4,096 bytes. -/
def identityBytes (i : Identity) : List Byte :=
  identityCodeBytes i.vendor ++ identityCodeBytes i.part ++ identityCodeBytes i.revision ++
    identityCodeBytes i.serial ++ identityCodeBytes i.build ++ byteOf 16 ++ bytesOf 2 4096

/-- What became of a TRIGGER (R12, R175). -/
def triggerBytes : TriggerOutcome → List Byte
  | .served slot frame => byteOf 1 ++ byteOf slot.val ++ bytesOf 4 frame
  | .starved => byteOf 2
  | .pending => byteOf 3
  | .overlap => byteOf 4
  | .ignored => byteOf 5

/-! ## Messages -/

/-- The result fields of a reply (R175). -/
def Result.bytes : Result → List Byte
  | .nothing => []
  | .identity => identityBytes Config.identity
  | .status r => statusBytes r
  | .param id value => byteOf id ++ bytesOf 4 value
  | .conditions set lockout => conditionBytes set ++ byteOf lockout.code
  | .runNumber n => bytesOf 4 n
  | .trigger o => triggerBytes o
  | .single slot frame => byteOf slot.val ++ bytesOf 4 frame
  | .position p => wordBytes p
  | .segment r => segmentBytes r
  | .segments r => each r segmentBytes
  | .monitor r => monitorBytes r
  | .zones r => zoneReportBytes r
  | .release o => byteOf o.code
  | .slots r => slotReportBytes r
  | .grant credits next => byteOf credits ++ byteOf next
  | .stop state next => slotStateBytes state ++ maybe 1 next
  | .load t id bank => [t] ++ byteOf id ++ byteOf bank.code
  | .tag t => [t]
  | .data bytes => bytes
  | .directory r => directoryBytes r

/-- The body of a reply (section 12.3, R175). -/
def ReplyBody.bytes : ReplyBody → List Byte
  | .done r => byteOf 1 ++ r.bytes
  | .taken r => byteOf 2 ++ r.bytes
  | .refused r => byteOf 3 ++ byteOf r.code
  | .unknownKind kind => byteOf 3 ++ byteOf Reason.unknownKind.code ++ [kind]

/-- RUN_ENDED's record (section 12.4); a closed record has its end position and reason. -/
def runEndedBytes (r : RunRecord) : List Byte :=
  bytesOf 4 r.number ++ byteOf r.mode.code ++ bytesOf 2 r.requested ++ wordBytes r.captured ++
    wordBytes r.skipped ++ wordBytes r.startPosition ++ wordBytes (r.endPosition.getD 0) ++
    orZero 1 (r.endReason.map EndReason.code)

/-- The kind code of a notice (sections 12.2 and 12.4). -/
def Notice.kind : Notice → Byte
  | .frameReady _ => 0xE1
  | .frameWithdrawn _ _ _ _ => 0xE2
  | .runEnded _ => 0xE3
  | .condition _ _ => 0xE4
  | .stateChanged _ _ => 0xE5
  | .profileLoaded _ _ _ _ => 0xE6
  | .storeDone _ _ => 0xE7

/-- The body of a notice (section 12.4, R165). -/
def Notice.bytes : Notice → List Byte
  | .frameReady n =>
    byteOf n.slot.val ++ bytesOf 4 n.number ++ orZero 4 n.run ++ byteOf n.source.code ++ wordBytes n.position ++
      bytesOf 2 n.speed ++ bytesOf 2 n.duration ++ byteOf n.profileId ++ bytesOf 2 n.flags.code
  | .frameWithdrawn slot frame former run =>
    byteOf slot.val ++ bytesOf 4 frame ++ byteOf former.code ++ orZero 4 run
  | .runEnded r => runEndedBytes r
  | .condition c set => byteOf (c.bit + 1) ++ conditionBytes set
  | .stateChanged part reason => byteOf part.code ++ byteOf reason.code
  | .profileLoaded tag id bank result => [tag] ++ byteOf id ++ byteOf bank.code ++ byteOf result.code
  | .storeDone tag result => [tag] ++ byteOf result.code

/-- The bytes of a queued message on the line; notices carry tag 0 (R165, R172). -/
def OutMessage.wire : OutMessage → List Byte
  | .reply kind tag body => envelope kind tag body.bytes
  | .notice n => envelope n.kind 0 n.bytes

/-- The bytes of a pixel. -/
def Pixel.bytes (p : Pixel) : List Byte := [p.red, p.green, p.blue]

/-- The body of a tile message: 16 header bytes, then the pixels (section 12.4). -/
def tileBody (slot : Fin 6) (f : Frame) (tile : Nat) : List Byte :=
  byteOf slot.val ++ byteOf (if tile = 191 then 1 else 0) ++ byteOf tile ++ byteOf (tile / 16) ++
    byteOf (tile % 16) ++ byteOf f.profileId ++ bytesOf 4 f.number ++ orZero 4 f.run ++ bytesOf 2 12288 ++
    (f.tiles.getD tile []).flatMap Pixel.bytes

/-- The bytes of a tile message on the line: kind 0xF0, tag 0 (sections 12.2 and 12.4). -/
def tileWire (slot : Fin 6) (f : Frame) (tile : Nat) : List Byte :=
  envelope 0xF0 0 (tileBody slot f tile)

end Sys2Proof.Machine
end

