-- ==== Sys2Proof/Machine/Sending.lean ====
section
/-! DEFINITION. What leaves the line: the arbiter (R140), queued messages (R164), tiles and the end of a transfer (R141
to R143), and the soft reset at the end of a RESET reply (R170). -/

namespace Sys2Proof.Machine

/-! ## Resets (R2, R35, R121, R160, R170) -/

/-- R148: an area that an interrupted erase or programming leaves caught in the middle of its phase: its bytes are
free (log 9). -/
def StoreState.disturb (i : Fin 16) (t : StoreState) : StoreState :=
  { t with
    areas := t.areas.modify i fun a => { a with disturbed := some t.disturbances }
    disturbances := t.disturbances + 1 }

/-- R148, R152: what stopping the array in the middle of an operation leaves in it: an operation that has begun
ERASING or PROGRAMMING leaves its area caught in the middle, or the control record failing its check; one that has not
begun, or is VERIFYING, has disturbed nothing. A commit's programming counts as begun from ERASING_END on: R148 does not
say when it begins, so its area is never EMPTY at a stop after that (log 35). Under ALL the next area's erase counts as
begun from the ERASING_END of the area before on (log 39). -/
def StoreState.interrupt (t : StoreState) : StoreState :=
  match t.operation with
  | some o =>
    if o.begun = true ∧ o.phase ≠ .verifying then
      match o.kind with
      | .commit i => t.disturb i
      | .erase i => t.disturb i
      | .eraseAll i => t.disturb i
      | .protect _ => { t with control := .bad }
    else t
  | none => t

/-- The part after a soft reset: run number, position, next frame number, lockdown and the array are kept. R35 does not
say how long a soft reset is in force; here it is one instant, in which no phase changes, and the phase reference is the
levels at it (log 30). -/
def State.softReset (s : State) : State :=
  let store := s.store.interrupt
  { s with
    line := LineState.atReset
    run := RunState.atReset s.run.runNumber
    travel := TravelState.atReset s.pins.phaseA s.pins.phaseB s.travel.position
    ring := RingState.atReset
    monitor := MonitorState.atReset
    balance := BalanceUnit.atReset
    frames := FrameStore.atReset s.frames.nextFrame s.frames.exhausted
    engine := EngineState.atReset
    transfer := none
    store := StoreState.atReset store.areas store.control store.lockdown store.disturbances }

/-- The part after a power-on reset: the array alone is kept. -/
def State.powerOnReset (s : State) : State :=
  let store := s.store.interrupt
  { s with
    line := LineState.atReset
    run := RunState.atReset 0
    travel := TravelState.atReset s.pins.phaseA s.pins.phaseB 0
    ring := RingState.atReset
    monitor := MonitorState.atReset
    balance := BalanceUnit.atReset
    frames := FrameStore.atReset 1 false
    engine := EngineState.atReset
    transfer := none
    store := StoreState.atReset store.areas store.control false store.disturbances }

/-! ## The arbiter (R140) -/

/-- R140: the slot's next unsent tile, 192 where there is none. -/
def State.nextUnsent (s : State) (i : Fin 6) : Nat :=
  ((s.frameAt i).map Frame.nextUnsent).getD 192

/-- R140: the tile sender waits for the line. -/
def State.tilesWait (s : State) : Bool :=
  match s.transfer with
  | some t => decide (0 < t.credits) && t.onLine.isNone && decide (s.nextUnsent t.slot ≤ 191)
  | none => false

/-- The outbound queue waits for the line. -/
def State.queueWaits (s : State) : Bool :=
  !s.line.outbound.isEmpty

/-- R140: the free line goes to the outbound queue: it alone waits, or it did not have the line last. -/
def State.queueNext (s : State) : Bool :=
  s.line.onLine.isNone && s.queueWaits && !(s.tilesWait && decide (s.line.lastParty = .queue))

/-- R140: the free line goes to the tile sender. -/
def State.tileNext (s : State) : Bool :=
  s.line.onLine.isNone && s.tilesWait && !(s.queueWaits && decide (s.line.lastParty = .tiles))

/-- The party has the line, and its bytes begin to leave it. -/
def LineState.give (p : Party) (bytes : List Byte) (l : LineState) : LineState :=
  { l with onLine := some { party := p, bytes := bytes }, lastParty := p }

/-- QUEUE_MESSAGE_START (R140, R164): the head message goes on the line; it stays in the queue. -/
def State.startMessage (s : State) : State :=
  match s.line.outbound with
  | m :: _ => if s.queueNext then s.updLine (LineState.give .queue m.wire) else s
  | [] => s

/-- R164: a reply that waited for room is placed, and the decoder is free. -/
def LineState.placeWaiting (l : LineState) : LineState :=
  match l.inHand with
  | some h =>
    match h.wait with
    | .place m => l.place h m
    | _ => l
  | none => l

/-- MESSAGE_SENT (R164, R170): the head message leaves the queue; a waiting reply is placed; a RESET reply brings the
soft reset. -/
def State.messageSent (s : State) : State :=
  match s.line.onLine, s.line.outbound with
  | some o, m :: rest =>
    if o.party = .queue then
      if m.isResetReply then s.softReset
      else s.updLine fun l => { l with onLine := none, outbound := rest }.placeWaiting
    else s
  | _, _ => s

/-- TILE_START (R140): the next tile goes on the line and spends a credit. -/
def State.startTile (s : State) : State :=
  match s.transfer with
  | some t =>
    match s.frameAt t.slot with
    | some f =>
      if s.tileNext then
        (s.updLine (LineState.give .tiles (tileWire t.slot f f.nextUnsent))).putTransfer
          (some { t with credits := t.credits - 1, onLine := some f.nextUnsent })
      else s
    | none => s
  | none => s

/-! ## The end of a tile, of a transfer and of a stop (R141 to R143) -/

/-- R142: tile 191 ends the transfer: the record is discarded and the slot is SENT, or FREE under AUTO_RELEASE. -/
def State.endTransfer (i : Fin 6) (s : State) : State :=
  let t := s.putTransfer none
  if s.line.params.autoReleases then t.discard i else t.modifyFrame i fun f => { f with state := .sent }

/-- R143: what a stop does to the slot: one still SENDING becomes HELD for KEEP and FREE for RELEASE; one that the
end of the transfer has left SENT stays so for KEEP and is freed for RELEASE; a FREE slot stays FREE. -/
def State.stopSlot (i : Fin 6) (release : Bool) (s : State) : State :=
  match s.frameAt i with
  | some f =>
    if release then s.discard i
    else if f.state = .sending then s.putFrame i (some { f with state := .held })
    else s
  | none => s

/-- R143: the stop takes effect: record and credits are discarded, the slot is left HELD, SENT or FREE, and the reply
carries its state and, unless FREE, its next unsent tile. -/
def State.stopEffect (i : Fin 6) (release : Bool) (s : State) : State :=
  let t := (s.putTransfer none).stopSlot i release
  t.done (.stop ((t.frameAt i).map Frame.state) ((t.frameAt i).map Frame.nextUnsent))

/-- R141, step 3: a TRANSFER_STOP that waits on the tile takes effect. -/
def State.waitingStop (s : State) : State :=
  match s.line.inHand with
  | some h =>
    match h.wait with
    | .stop i release => s.stopEffect i release
    | _ => s
  | none => s

/-- TILE_MESSAGE_SENT (R141, R142): the next unsent tile increments; tile 191 ends the transfer; a waiting stop takes
effect. -/
def State.tileSent (s : State) : State :=
  match s.line.onLine, s.transfer with
  | some o, some t =>
    match o.party, t.onLine with
    | .tiles, some tile =>
      let u := (s.updLine fun l => { l with onLine := none }).modifyFrame t.slot
        fun f => { f with nextUnsent := f.nextUnsent + 1 }
      let v := u.putTransfer (some { t with onLine := none })
      let w := if tile = 191 then v.endTransfer t.slot else v
      w.waitingStop
    | _, _ => s
  | _, _ => s

/-! ## The rows -/

/-- QUEUE_MESSAGE_START. -/
def execQueueMessageStart (s : State) : Host.Outcome State Fault Refusal :=
  Event.run s State.startMessage

/-- MESSAGE_SENT. -/
def execMessageSent (s : State) : Host.Outcome State Fault Refusal :=
  Event.run s State.messageSent

/-- TILE_START. -/
def execTileStart (s : State) : Host.Outcome State Fault Refusal :=
  Event.run s State.startTile

/-- TILE_MESSAGE_SENT. -/
def execTileMessageSent (s : State) : Host.Outcome State Fault Refusal :=
  Event.run s State.tileSent

/-- RESET_INPUT (R170): a soft reset at once, whatever is on the line. -/
def execResetInput (s : State) : Host.Outcome State Fault Refusal :=
  Event.run s State.softReset

/-- POWER_ON_RESET (R2): power is applied, or is back after a brownout. -/
def execPowerOnReset (s : State) : Host.Outcome State Fault Refusal :=
  .next { s.powerOnReset with powered := true }

/-- BROWNOUT (R81): a power-on reset of the whole part, which then waits for the supply (log 13). -/
def execBrownout (s : State) : Host.Outcome State Fault Refusal :=
  .next { s.powerOnReset with powered := false }

end Sys2Proof.Machine
end

