-- ==== Sys2Proof/Machine/Reception.lean ====
section
/-! DEFINITION. The receiver (R161), the inbound buffer (R162), and the silence timer's restart (R19). -/

namespace Sys2Proof.Machine

/-- R161: a discarded message raises LINK_CHECK, and the receiver hunts again. -/
def LineState.discardMessage (l : LineState) : LineState :=
  LineState.raise .linkCheck { l with receiver := .hunting }

/-- R161: the two LENGTH bytes of what has been gathered after SYNC. -/
def lengthOf (bytes : List Byte) : Nat :=
  natOf (bytes.take 2)

/-- R161, R172: the CHECK bytes received equal the CRC-16 over LENGTH through BODY. -/
def checkPasses (bytes : List Byte) : Bool :=
  decide ((crc16 (bytes.take (2 + lengthOf bytes))).toNat = natOf (bytes.drop (2 + lengthOf bytes)))

/-- Section 12.1: the message of a whole envelope after SYNC. -/
def messageOf (bytes : List Byte) : Message where
  kind := bytes.getD 2 0
  tag := bytes.getD 3 0
  body := (bytes.drop 4).take (lengthOf bytes - 2)

/-- R162: a good message joins the inbound buffer, or is discarded with RX_OVERRUN when it holds four. -/
def LineState.offer (m : Message) (l : LineState) : LineState :=
  if l.inbound.length < 4 then { l with inbound := l.inbound ++ [m] } else l.raise .rxOverrun

/-- R19: the silence timer restarts with SILENCE_TIMEOUT; 0 leaves it stopped. -/
def State.restartSilence (s : State) : State :=
  let v := s.param .silenceTimeout
  s.updRun fun r => { r with silenceTimer := if v = 0 then none else some v }

/-- R161, R162: what the bytes gathered after SYNC come to: a message still being received, one discarded for its
LENGTH or its check, or a good one. -/
def State.gathered (bytes : List Byte) (s : State) : State :=
  if bytes.length < 2 then s.updLine fun l => { l with receiver := .receiving bytes }
  else if lengthOf bytes < 2 ∨ 300 < lengthOf bytes then s.updLine LineState.discardMessage
  else if bytes.length < 4 + lengthOf bytes then s.updLine fun l => { l with receiver := .receiving bytes }
  else if checkPasses bytes then
    (s.updLine fun l => LineState.offer (messageOf bytes) { l with receiver := .hunting }).restartSilence
  else s.updLine LineState.discardMessage

/-- R161: one byte arrives. -/
def State.receiveByte (s : State) (b : Byte) : State :=
  match s.line.receiver with
  | .hunting => if b = 0xA5 then s.updLine fun l => { l with receiver := .receiving [] } else s
  | .receiving bytes => s.gathered (bytes ++ [b])

/-- R161: the gap limit expires; while hunting it does not run. -/
def State.gapExpired (s : State) : State :=
  match s.line.receiver with
  | .hunting => s
  | .receiving _ => s.updLine LineState.discardMessage

/-- MESSAGE_RECEIVED (R161): bytes arrive with no gap limit expiring among them. -/
def execMessageReceived (bytes : List Byte) (s : State) : Host.Outcome State Fault Refusal :=
  Event.run s fun s => bytes.foldl State.receiveByte s

/-- SYNC_BYTE_RECEIVED (R161): a byte of 0xA5 arrives. -/
def execSyncByteReceived (s : State) : Host.Outcome State Fault Refusal :=
  Event.run s fun s => s.receiveByte 0xA5

/-- GAP_LIMIT_EXPIRY (R161). -/
def execGapLimitExpiry (s : State) : Host.Outcome State Fault Refusal :=
  Event.run s State.gapExpired

end Sys2Proof.Machine
end

