-- ==== Sys2Proof/Machine/Runs.lean ====
section
/-! DEFINITION. The run controller: runs, triggers, SINGLE, parking, sleep and waking, and its three timers (chapter
1). -/

namespace Sys2Proof.Machine

/-- R5: the run number increments and wraps from 2^32 - 1 to 1. -/
def nextRunNumber (n : Nat) : Nat :=
  if n < 4294967295 then n + 1 else 1

/-- R5, step 2: the record of a run just accepted. -/
def RunRecord.opened (number : Nat) (mode : RunMode) (requested : Nat) (start : Word32) : RunRecord where
  number := number
  mode := mode
  requested := requested
  captured := 0
  skipped := 0
  startPosition := start
  endPosition := none
  endReason := none

/-- R5, steps 1 to 5: a run opens and the part is RUNNING. -/
def State.openNewRun (mode : RunMode) (requested : Nat) (s : State) : State :=
  let number := nextRunNumber s.run.runNumber
  let t := s.updRun fun r => { r with
    runNumber := number
    current := some (RunRecord.opened number mode requested s.travel.position)
    intervalTimer := if mode = .interval then some (s.param .interval) else r.intervalTimer }
  let u := t.updTravel fun v => { v with
    countdown := if mode = .distance then some (s.param .triggerSpacing) else v.countdown }
  (u.restartSilence).updRun fun r => { r with part := .running }

/-- R5: an accepted RUN_START: the run opens, the reply carries its number, and first-now takes one trigger. -/
def State.acceptRun (mode : RunMode) (requested : Nat) (firstNow : Bool) (s : State) : State :=
  let t := s.openNewRun mode requested
  let u := t.done (.runNumber t.run.runNumber)
  if firstNow then (u.takeTrigger { source := mode.source, position := u.travel.position }).2 else u

/-- R5: RUN_START, its tests in the order of R1. -/
def State.runStart (body : List Byte) (s : State) : State :=
  match RunMode.ofCode (numberAt body 0 1), flagOf (numberAt body 3 1) with
  | some mode, some firstNow =>
    if s.run.part = .ready then
      if s.ring.lockout.isEmpty then s.acceptRun mode (numberAt body 1 2) firstNow else s.refuse .lockout
    else s.refuse .wrongState
  | _, _ => s.refuse .badValue

/-- R14: RUN_STOP is a run end in RUNNING; its reply is placed before the run closes. Where R164 makes the
reply wait, with sixteen messages queued, the run closes at once and the reply alone waits (log 40). -/
def State.runStop (s : State) : State :=
  if s.run.part = .running then (s.done .nothing).endRun .hostStop else s.refuse .wrongState

/-- R12: a TRIGGER is accepted in a HOST-mode run in RUNNING. -/
def State.acceptsTrigger (s : State) : Bool :=
  decide (s.run.part = .running) && decide (s.run.current.map RunRecord.mode = some .host)

/-- R12: TRIGGER, whose reply names what became of it. -/
def State.hostTrigger (s : State) : State :=
  if s.acceptsTrigger then
    let r := s.takeTrigger { source := .host, position := s.travel.position }
    r.2.done (.trigger r.1)
  else s.refuse .wrongState

/-- R13: SINGLE. -/
def State.single (s : State) : State :=
  if s.run.part = .ready then
    if s.ring.lockout.isEmpty then
      if s.pathBusy then s.refuse .busy
      else
        let r := s.allocate none { source := .single, position := s.travel.position }
        match r.1 with
        | some i => r.2.done (.single i s.frames.nextFrame)
        | none => r.2.refuse .busy
    else s.refuse .lockout
  else s.refuse .wrongState

/-- R18: PARK parks a READY part at once, and ends the run of a RUNNING one. -/
def State.park (s : State) : State :=
  match s.run.part with
  | .ready => (s.updRun fun r => { r with part := .parked }).done .nothing
  | .running => (s.done .nothing).endRun .parked
  | _ => s.refuse .wrongState

/-- R74: the next scan conversion starts at the scan position with ADC_RESOLUTION. -/
def State.startScan (s : State) : State :=
  let n := s.param .adcResolution
  s.updMonitor fun m => { m with conversion := some { channel := m.scanPosition, kind := .scan, resolution := n } }

/-- R21, R34, R128: entry to WAKING: the settle timer starts with 200 ms, the motion counter is inactive, and the
stopped blocks start again. -/
def State.beginWaking (reason : WakeReason) (s : State) : State :=
  let t := s.updRun fun r => { r with part := .waking, wakeReason := some reason, wakeTimer := some 200 }
  ((t.updTravel fun v => { v with motion := none }).startScan).engineTake

/-- R17, R21: WAKE. -/
def State.wake (s : State) : State :=
  match s.run.part with
  | .parked => (s.updRun fun r => { r with part := .ready }).done .nothing
  | .dormant => (s.beginWaking .request).done .nothing
  | _ => s.refuse .wrongState

/-- R20: a commit or an erase is in progress. -/
def StoreState.erasesOrCommits (t : StoreState) : Bool :=
  match t.operation with
  | some o =>
    match o.kind with
    | .commit _ | .erase _ | .eraseAll _ => true
    | .protect _ => false
  | none => false

/-- R20: what makes SLEEP refused BUSY. -/
def State.tooBusyToSleep (s : State) : Bool :=
  s.engine.hand.isSome || s.transfer.isSome || s.store.erasesOrCommits || s.pathBusy

/-- R20, R34, R74: entry to DORMANT: the motion counter starts at 0, and a conversion in flight is discarded. -/
def State.beginDormant (s : State) : State :=
  let t := s.updRun fun r => { r with part := .dormant }
  (t.updTravel fun v => { v with motion := some 0 }).updMonitor fun m => { m with conversion := none }

/-- R20: SLEEP. -/
def State.sleep (s : State) : State :=
  if s.run.part = .ready ∨ s.run.part = .parked then
    if s.tooBusyToSleep then s.refuse .busy else s.beginDormant.done .nothing
  else s.refuse .wrongState

/-- R11: the interval timer reloads with INTERVAL, and a trigger with source INTERVAL arrives. -/
def State.intervalExpired (s : State) : State :=
  if s.run.intervalTimer.isSome then
    let t := s.updRun fun r => { r with intervalTimer := some (s.param .interval) }
    (t.takeTrigger { source := .interval, position := t.travel.position }).2
  else s

/-- R19: the silence timer expires (and stays stopped until its next restart, log 27): in RUNNING the run ends,
LINK_SILENCE is raised, and R16 then closes the run (log 22). -/
def State.silenceExpired (s : State) : State :=
  if s.run.silenceTimer.isSome then
    let t := s.updRun fun r => { r with silenceTimer := none }
    if t.run.part = .running then ((t.leaveRunning .silence).raise .linkSilence).closeIfIdle else t
  else s

/-- R21: the wake settle timer expires: the part is READY, and STATE_CHANGED carries the wake reason. -/
def State.wakeSettled (s : State) : State :=
  match s.run.wakeTimer, s.run.wakeReason with
  | some _, some reason =>
    (s.updRun fun r => { r with part := .ready, wakeTimer := none, wakeReason := none }).notify
      (.stateChanged .ready reason.change)
  | _, _ => s

/-- RUN_START (R5). -/
def execRunStart (tag : Byte) (body : List Byte) (s : State) : Host.Outcome State Fault Refusal :=
  Event.run s (State.request .runStart tag body true (State.runStart body))

/-- RUN_STOP (R14). -/
def execRunStop (tag : Byte) (body : List Byte) (s : State) : Host.Outcome State Fault Refusal :=
  Event.run s (State.request .runStop tag body true State.runStop)

/-- TRIGGER (R12). -/
def execTrigger (tag : Byte) (body : List Byte) (s : State) : Host.Outcome State Fault Refusal :=
  Event.run s (State.request .trigger tag body true State.hostTrigger)

/-- SINGLE (R13). -/
def execSingle (tag : Byte) (body : List Byte) (s : State) : Host.Outcome State Fault Refusal :=
  Event.run s (State.request .single tag body true State.single)

/-- PARK (R18). -/
def execPark (tag : Byte) (body : List Byte) (s : State) : Host.Outcome State Fault Refusal :=
  Event.run s (State.request .park tag body true State.park)

/-- WAKE (R17, R21). -/
def execWake (tag : Byte) (body : List Byte) (s : State) : Host.Outcome State Fault Refusal :=
  Event.run s (State.request .wake tag body true State.wake)

/-- SLEEP (R20). -/
def execSleep (tag : Byte) (body : List Byte) (s : State) : Host.Outcome State Fault Refusal :=
  Event.run s (State.request .sleep tag body true State.sleep)

/-- INTERVAL_EXPIRY (R11). -/
def execIntervalExpiry (s : State) : Host.Outcome State Fault Refusal :=
  Event.run s State.intervalExpired

/-- SILENCE_EXPIRY (R19). -/
def execSilenceExpiry (s : State) : Host.Outcome State Fault Refusal :=
  Event.run s State.silenceExpired

/-- WAKE_SETTLE_EXPIRY (R21). -/
def execWakeSettleExpiry (s : State) : Host.Outcome State Fault Refusal :=
  Event.run s State.wakeSettled

end Sys2Proof.Machine
end

