-- ==== Sys2Proof/Machine/Monitor.lean ====
section
/-! DEFINITION. The supply monitor: the converter scan, strobe readings, droop, low supply, thermal derate and trip
(chapter 5). -/

namespace Sys2Proof.Machine

/-- R75: a reading of a divider, rounded down, at a resolution in bits. -/
def scaledReading (code full resolution : Nat) : Nat :=
  code % 2 ^ resolution * full / 2 ^ resolution

/-- R75: the thermistor curve yields a whole °C from -40 to 150 (log 10). -/
def heldCelsius (t : Int) : Int :=
  max (-40) (min t 150)

/-- R75: the reading a conversion's result becomes: tenths of a volt, °C or millivolts. -/
def readingOf (channel : Channel) (resolution code : Nat) (celsius : Int) : Int :=
  match channel with
  | .supply => (scaledReading code 320 resolution : Int)
  | .ringT0 | .ringT1 | .ringT2 | .boardT => heldCelsius celsius
  | .ref => (scaledReading code 3300 resolution : Int)

/-- R80: the low-supply test of a SUPPLY rest reading. -/
def State.lowSupplyTest (v : Int) (s : State) : State :=
  if supplyThreshold (s.param .supplyLowLevel) ≤ v then s.updMonitor fun m => { m with lowStreak := 0 }
  else if s.monitor.lowStreak = 0 then s.updMonitor fun m => { m with lowStreak := 1 }
  else (s.updMonitor fun m => { m with lowStreak := 0 }).enterLockout .supply

/-- R82: the thermal derate step of a reading. -/
def derateStep (t start : Int) : Nat :=
  if t < start then 0 else min 6 (((t - start) / 2).toNat + 1)

/-- R82, R83: a group's reading sets its step, and leaving step 0 raises THERMAL_DERATE. -/
def State.derate (g : Fin 3) (t : Int) (s : State) : State :=
  let step := derateStep t (s.param .thermalDerateStart : Int)
  let u := s.updMonitor fun m => { m with thermalStep := m.thermalStep.set g step }
  if s.monitor.thermalStep.get g = 0 ∧ 0 < step then u.raise .thermalDerate else u

/-- R84: the trip test of a ring thermistor reading. -/
def State.tripTest (t : Int) (s : State) : State :=
  if (s.param .thermalTripLevel : Int) ≤ t then s.enterLockout .thermal else s

/-- R75: what a ring thermistor reading is handed to. -/
def State.ringReading (g : Fin 3) (t : Int) (s : State) : State :=
  ((s.derate g t).tripTest t).testRelease .thermal

/-- R75: what a rest reading is handed to, by channel. -/
def State.handOnReading (channel : Channel) (v : Int) (s : State) : State :=
  match channel with
  | .supply => (s.lowSupplyTest v).testRelease .supply
  | .ringT0 => s.ringReading 0 v
  | .ringT1 => s.ringReading 1 v
  | .ringT2 => s.ringReading 2 v
  | .boardT | .ref => s

/-- R74, R75: a scan conversion ends: its reading, the tests it is handed to, and the next scan conversion. -/
def State.scanEnded (code : Nat) (celsius : Int) (s : State) : State :=
  match s.monitor.conversion with
  | some c =>
    match c.kind with
    | .scan =>
      let v := readingOf c.channel c.resolution code celsius
      let t := s.updMonitor fun m => { m with
        conversion := none
        rest := m.rest.set c.channel.index (some v)
        lastResolution := some c.resolution
        scanPosition := c.channel.next }
      (t.handOnReading c.channel v).startScan
    | .strobe _ _ => s
  | none => s

/-- R76: a strobe conversion of SUPPLY starts and abandons a scan conversion in flight. -/
def State.startStrobeConversion (i : Fin 6) (frame : Nat) (s : State) : State :=
  let n := s.param .adcResolution
  s.updMonitor fun m => { m with
    conversion := some { channel := .supply, kind := .strobe i frame, resolution := n } }

/-- R77, R106: DROOP on the recorded slot, while it holds the frame the reading concerns. -/
def State.flagDroop (i : Fin 6) (frame : Nat) (s : State) : State :=
  s.modifyFrame i fun f => if f.number = frame then { f with flags := { f.flags with droop := true } } else f

/-- R77: a strobe reading below the DROOP_LEVEL threshold. -/
def State.drooped (i : Fin 6) (frame : Nat) (s : State) : State :=
  ((s.flagDroop i frame).raise .supplyDroop).updMonitor fun m => { m with
    supplyStep := min 6 (m.supplyStep + 1)
    droopFree := 0 }

/-- R77: a strobe reading at or above the threshold. -/
def MonitorState.droopless (m : MonitorState) : MonitorState :=
  if m.droopFree < 15 then { m with droopFree := m.droopFree + 1 }
  else { m with droopFree := 0, supplyStep := m.supplyStep - 1 }

/-- R77: the strobe conversion ends, and the scan resumes at the scan position. -/
def State.strobeConversionEnded (code : Nat) (s : State) : State :=
  match s.monitor.conversion with
  | some c =>
    match c.kind with
    | .strobe i frame =>
      let v := scaledReading code 320 c.resolution
      let t := s.updMonitor fun m => { m with
        conversion := none
        lastStrobe := some (v, frame)
        lastResolution := some c.resolution }
      let u :=
        if (v : Int) < supplyThreshold (s.param .droopLevel) then t.drooped i frame
        else t.updMonitor MonitorState.droopless
      u.startScan
    | .scan => s
  | none => s

/-- R85: the resolution of the conversion in flight, or of the last completed one (log 25). -/
def MonitorState.resolution (m : MonitorState) : Option Nat :=
  match m.conversion with
  | some c => some c.resolution
  | none => m.lastResolution

/-- R85: the snapshot MONITOR_REPORT carries. -/
def MonitorState.report (m : MonitorState) : MonitorReport where
  rest := m.rest
  lastStrobe := m.lastStrobe
  supplyStep := m.supplyStep
  droopFree := m.droopFree
  lowStreak := m.lowStreak
  ringBudget := ringBudget m.supplyStep
  groups := m.thermalStep.map fun step => (step, groupCeiling step)
  resolution := m.resolution

/-- SCAN_CONVERSION_END (R75): the converter's code, and for a thermistor the °C of its curve. -/
def execScanConversionEnd (code : Nat) (celsius : Int) (s : State) : Host.Outcome State Fault Refusal :=
  Event.run s (State.scanEnded code celsius)

/-- STROBE_CONVERSION_END (R77). -/
def execStrobeConversionEnd (code : Nat) (s : State) : Host.Outcome State Fault Refusal :=
  Event.run s (State.strobeConversionEnded code)

/-- MONITOR_REPORT (R85). -/
def execMonitorReport (tag : Byte) (body : List Byte) (s : State) : Host.Outcome State Fault Refusal :=
  Event.run s (State.request .monitorReport tag body true fun s => s.done (.monitor s.monitor.report))

end Sys2Proof.Machine
end

