-- ==== Sys2Proof/Machine/Strobes.lean ====
section
/-! DEFINITION. Strobes: levels (R39 to R41), duration (R61), start, mid-strobe point and end (R56 to R66), the guard
(R67), health samples (R43 to R46), and the self-test pulses (R4, R71). -/

namespace Sys2Proof.Machine

/-! ## Duration and levels -/

/-- R61: the blur limit in µs. -/
def blurLimit (speed budget longest : Nat) : Nat :=
  if speed = 0 then longest else budget * 1000 / speed

/-- R61: D. -/
def strobeDuration (speed budget longest : Nat) : Nat :=
  max 20 (min longest (blurLimit speed budget longest))

/-- R62, step 5: the time the guard is armed with. -/
def guardTime (d : Nat) : Nat :=
  min 5000 (d + d / 4)

/-- R39: the raw level of an ENABLED segment. -/
def rawLevel (energy d : Nat) : Nat := energy / d

/-- A level, and whether the light asked for was cut: clipped under R39 or scaled under R40. -/
structure FormedLevel where
  level : Nat
  cut : Bool
deriving DecidableEq, Repr

/-- R39: the clipped level of a segment; one that is DISABLED or FAULTED has level 0 and is not clipped. -/
def clippedLevel (enabled : Bool) (energy d ceiling : Nat) : FormedLevel :=
  if enabled then
    let level := min (min (rawLevel energy d) 255) ceiling
    { level := level, cut := decide (level < rawLevel energy d) }
  else { level := 0, cut := false }

/-- R40: the sum of the levels. -/
def levelSum (levels : Table 12 FormedLevel) : Nat :=
  (levels.items.map FormedLevel.level).sum

/-- R40: a level scaled to the budget. -/
def FormedLevel.scaled (budget sum : Nat) (l : FormedLevel) : FormedLevel :=
  { level := l.level * budget / sum, cut := l.cut || decide (0 < l.level) }

/-- R40: levels whose sum exceeds the budget are scaled down in proportion. -/
def scaledLevels (budget : Nat) (levels : Table 12 FormedLevel) : Table 12 FormedLevel :=
  if levelSum levels ≤ budget then levels else levels.map (FormedLevel.scaled budget (levelSum levels))

/-- The segment is ENABLED. -/
def Segment.isEnabled (g : Segment) : Bool := decide (g.state = .enabled)

/-- R39: the clipped levels of all segments at a strobe start. -/
def State.clippedLevels (s : State) (d : Nat) : Table 12 FormedLevel :=
  Table.ofFn fun i =>
    clippedLevel (s.segmentAt i).isEnabled (s.balance.energies.get i) d (s.effectiveCeiling i)

/-- R39, R40: the levels of a strobe that starts now. -/
def State.strobeLevels (s : State) (d : Nat) : Table 12 FormedLevel :=
  scaledLevels (ringBudget s.monitor.supplyStep) (s.clippedLevels d)

/-- R41: what a strobe start changes in a segment record. -/
def Segment.started (g : Segment) (l : FormedLevel) : Segment :=
  { g with
    lastLevel := l.level
    saturatedLast := l.cut
    strobeCount := if 0 < l.level then g.strobeCount + 1 else g.strobeCount }

/-! ## Capture strobes -/

/-- R62, steps 2 to 5: the segment table, the strobe record, the drives, LIT and EXPOSE, and the guard. -/
def RingState.fire (i : Fin 6) (d : Nat) (levels : Table 12 FormedLevel) (r : RingState) : RingState :=
  { r with
    segments := Table.ofFn fun k => (r.segments.get k).started (levels.get k)
    deferral := none
    strobe := some
      { target := .capture i, duration := d, levels := levels.map FormedLevel.level, midPassed := false }
    guard := some (guardTime d)
    drives := levels.map FormedLevel.level
    lit := true
    expose := true }

/-- R62, step 6, R63: the slot is EXPOSING, with its strobe data and its flags. -/
def Frame.exposed (d : StrobeData) (saturated limited faulted unsettled : Bool) (f : Frame) : Frame :=
  { f with
    state := .exposing
    strobe := some d
    flags := f.flags.withStart saturated limited faulted unsettled }

/-- R62: a capture strobe starts. -/
def State.startStrobe (i : Fin 6) (s : State) : State :=
  let speed := s.travel.speed
  let longest := s.param .strobeMax
  let d := strobeDuration speed (s.param .blurBudget) longest
  let limited := decide (blurLimit speed (s.param .blurBudget) longest < longest)
  let levels := s.strobeLevels d
  let saturated := levels.any FormedLevel.cut
  let faulted := s.ring.segments.any fun g => decide (g.state = .faulted)
  let data : StrobeData := { speed := speed, duration := d, levels := levels.map FormedLevel.level }
  let t := (s.updRing (RingState.fire i d levels)).modifyFrame i
    (Frame.exposed data saturated limited faulted (decide (s.balance.state ≠ .settled)))
  if saturated && limited then t.raise .speedLimit else t

/-- R56, step 2: a capture is deferred with EXCL_TIMEOUT, and its slot flagged DEFERRED. -/
def State.deferCapture (i : Fin 6) (s : State) : State :=
  let timeout := s.param .exclTimeout
  (s.updRing fun r => { r with deferral := some { target := .capture i, timeout := timeout } }).modifyFrame i
    fun f => { f with flags := { f.flags with deferred := true } }

/-- R56: a capture strobe request whose slot is ARMED: abandoned under lockout, deferred under EXCL, or started. -/
def State.takeCapture (i : Fin 6) (s : State) : State :=
  if s.ring.lockout.isEmpty then
    if s.pins.excl then s.deferCapture i else s.startStrobe i
  else (s.abandon i).closeIfIdle

/-- R56: the ring driver takes the strobe request; one whose slot is no longer ARMED does nothing, and nor does one
whose slot is deferred already. -/
def State.takeStrobeRequest (s : State) : State :=
  match s.ring.request with
  | some i =>
    let t := s.updRing fun r => { r with request := none }
    if t.slotIn (fun p => decide (p = .armed)) = some i ∧ t.ring.deferral.isNone then t.takeCapture i else t
  | none => s

/-! ## The self-test (R3, R4, R71) -/

/-- R71, R64: a self-test pulse lights one segment at level 64 for 100 µs under a guard of 125 µs; it asserts LIT and
not EXPOSE. -/
def RingState.firePulse (i : Fin 12) (r : RingState) : RingState :=
  let levels : Table 12 Nat := (Table.fill 12 0).set i 64
  { r with
    segments := r.segments.modify i fun g => { g with strobeCount := g.strobeCount + 1 }
    deferral := none
    strobe := some { target := .selfTest i, duration := 100, levels := levels, midPassed := false }
    guard := some 125
    drives := levels
    lit := true
    expose := false }

/-- R71: a pulse is requested for segment `i`, whose turn it is: under lockout the self-test ends; under EXCL it is
deferred; else it is fired. -/
def State.requestPulse (i : Fin 12) (s : State) : State :=
  let t := s.updRun fun r => { r with selfTest := some i }
  if t.ring.lockout.isEmpty then
    if t.pins.excl then
      t.updRing fun r => { r with deferral := some { target := .selfTest i, timeout := s.param .exclTimeout } }
    else t.updRing (RingState.firePulse i)
  else t.endStartup

/-- R4: the next segment from number `k` on that is ENABLED. -/
def State.nextPulse (k : Nat) (s : State) : Option (Fin 12) :=
  (List.finRange 12).find? fun i => decide (k ≤ i.val) && (s.segmentAt i).isEnabled

/-- R4, R3: the self-test goes on with the next ENABLED segment, or has ended. -/
def State.continueSelfTest (k : Nat) (s : State) : State :=
  match s.nextPulse k with
  | some i => s.requestPulse i
  | none => s.endStartup

/-- R3: start-up goes on when the store's scan is complete: the self-test begins, or is skipped while a reason is in
the lockout set. -/
def State.beginSelfTest (s : State) : State :=
  if s.ring.lockout.isEmpty then s.continueSelfTest 0 else s.endStartup

/-- R66, R71: what follows the end of a strobe's light: a capture's slot is READING; after a pulse the next one is
requested. -/
def State.afterLight (target : StrobeTarget) (s : State) : State :=
  match target with
  | .capture i => s.beginReading i false
  | .selfTest i => if s.run.selfTest.isSome then s.continueSelfTest (i.val + 1) else s

/-- R66: the strobe ends at D; a strobe that has been cut has no record and nothing happens. -/
def State.strobeEnded (s : State) : State :=
  match s.ring.strobe with
  | some lit => (s.updRing RingState.darken).afterLight lit.target
  | none => s

/-- R67: the guard expires while a strobe is lit and cuts it: STROBE_OVERRUN, GUARD in the lockout set, CUT. A guard
that has been disarmed does not expire (R68). -/
def State.guardExpired (s : State) : State :=
  match s.ring.guard, s.ring.strobe with
  | some _, some lit => ((s.updRing RingState.darken).enterLockout .guard).handOver lit.target true
  | _, _ => s

/-- R58: EXCL is released: a held deferral ends and its strobe or pulse starts. -/
def State.exclusionReleased (s : State) : State :=
  match s.ring.deferral with
  | some d =>
    match d.target with
    | .capture i => (s.updRing fun r => { r with deferral := none }).startStrobe i
    | .selfTest i => s.updRing (RingState.firePulse i)
  | none => s

/-- R57, R59, R71: the deferral timer expires: a capture's slot is abandoned, EXCLUSION_TIMEOUT raised and the pending
trigger served; a pulse is not fired, and the self-test goes on with the next segment. -/
def State.deferralExpired (s : State) : State :=
  match s.ring.deferral with
  | some d =>
    match d.target with
    | .capture i => (((s.abandon i).raise .exclusionTimeout).closeIfIdle).servePending
    | .selfTest i =>
      let t := (s.updRing fun r => { r with deferral := none }).raise .exclusionTimeout
      t.continueSelfTest (i.val + 1)
  | none => s

/-! ## Health samples (R43 to R46) -/

/-- R43: the sample of a segment lit at `level`: its current against the current the level commands, its string voltage
against the supply. -/
def sampleOf (check short level perLevel supply current string : Nat) : Sample :=
  if 16 * current < perLevel * level then .openString
  else if 16 * string < short * supply then .shorted
  else if 16 * current < check * (perLevel * level) then .weak
  else .good

/-- R44: an OPEN or SHORTED sample in an ordinary strobe. -/
def Segment.faultSample (h : Health) (g : Segment) : Segment :=
  if 2 ≤ g.faultCount + 1 then { g with faultCount := 2, state := .faulted, health := h }
  else { g with faultCount := g.faultCount + 1 }

/-- R45: a WEAK sample in an ordinary strobe. -/
def Segment.weakSample (g : Segment) : Segment :=
  if 4 ≤ g.weakCount + 1 then { g with weakCount := 4, health := .weak }
  else { g with weakCount := g.weakCount + 1 }

/-- R45, R46: a GOOD sample. -/
def Segment.goodSample (g : Segment) : Segment :=
  { g with weakCount := 0, faultCount := 0, health := .good }

/-- R44, R45: a record after a sample in an ordinary strobe. -/
def Segment.sampled (x : Sample) (g : Segment) : Segment :=
  match x with
  | .openString => g.faultSample .openString
  | .shorted => g.faultSample .shorted
  | .weak => g.weakSample
  | .good => g.goodSample

/-- R46: a record after the sample of a self-test pulse. -/
def Segment.pulseSampled (x : Sample) (g : Segment) : Segment :=
  match x with
  | .openString => { g with state := .faulted, health := .openString, faultCount := 2 }
  | .shorted => { g with state := .faulted, health := .shorted, faultCount := 2 }
  | .weak => { g with health := .weak, weakCount := 4 }
  | .good => g.goodSample

/-- R44 to R46: the condition a sample raises, judged on the record it leaves. -/
def Sample.raised (x : Sample) (g : Segment) : Option Condition :=
  match x with
  | .openString | .shorted => if g.faultCount = 2 then some .segmentFault else none
  | .weak => if g.weakCount = 4 then some .segmentWeak else none
  | .good => none

/-- A condition raised, if there is one. -/
def State.raiseSome (o : Option Condition) (s : State) : State :=
  match o with
  | some c => s.raise c
  | none => s

/-- R43: the sample of segment `i` in the strobe in progress; none below level 32. -/
def State.sampleAt (s : State) (senses : StrobeSenses) (lit : Strobe) (i : Fin 12) : Option Sample :=
  if 32 ≤ lit.levels.get i then
    some (sampleOf (s.param .checkFraction) (s.param .shortFraction) (lit.levels.get i) senses.currentPerLevel
      senses.supply (senses.current.get i) (senses.string.get i))
  else none

/-- R44 to R46: one segment's sample applied to its record. -/
def State.applySample (senses : StrobeSenses) (lit : Strobe) (s : State) (i : Fin 12) : State :=
  match s.sampleAt senses lit i with
  | some x =>
    let g :=
      match lit.target with
      | .capture _ => (s.segmentAt i).sampled x
      | .selfTest _ => (s.segmentAt i).pulseSampled x
    (s.putSegment i g).raiseSome (x.raised g)
  | none => s

/-- R65: a capture strobe's mid-point has the supply monitor take its strobe reading. -/
def State.strobeReading (target : StrobeTarget) (s : State) : State :=
  match target with
  | .capture i =>
    match s.frameAt i with
    | some f => s.startStrobeConversion i f.number
    | none => s
  | .selfTest _ => s

/-- R65: the mid-strobe point of a strobe whose record is present, once. The samples are applied in rising segment
number, so that SEGMENT_FAULT and SEGMENT_WEAK are raised in that order: R43 and R65 give no order (log 31). -/
def State.midPoint (senses : StrobeSenses) (s : State) : State :=
  match s.ring.strobe with
  | some lit =>
    if lit.midPassed then s
    else
      let t := s.updRing fun r => { r with strobe := some { lit with midPassed := true } }
      ((List.finRange 12).foldl (State.applySample senses lit) t).strobeReading lit.target
  | none => s

/-! ## The rows -/

/-- STROBE_REQUEST (R56). -/
def execStrobeRequest (s : State) : Host.Outcome State Fault Refusal :=
  Event.run s State.takeStrobeRequest

/-- EXCL_ASSERTED (R56, R70): the level alone changes; a later request is deferred. -/
def execExclAsserted (s : State) : Host.Outcome State Fault Refusal :=
  Event.runPin s (fun p => { p with excl := true }) id

/-- EXCL_RELEASE (R58). -/
def execExclRelease (s : State) : Host.Outcome State Fault Refusal :=
  Event.runPin s (fun p => { p with excl := false }) State.exclusionReleased

/-- DEFERRAL_TIMER_EXPIRY (R59). -/
def execDeferralTimerExpiry (s : State) : Host.Outcome State Fault Refusal :=
  Event.run s State.deferralExpired

/-- MID_STROBE (R65). -/
def execMidStrobe (senses : StrobeSenses) (s : State) : Host.Outcome State Fault Refusal :=
  Event.run s (State.midPoint senses)

/-- STROBE_END (R66). -/
def execStrobeEnd (s : State) : Host.Outcome State Fault Refusal :=
  Event.run s State.strobeEnded

/-- STROBE_GUARD_EXPIRY (R67). -/
def execStrobeGuardExpiry (s : State) : Host.Outcome State Fault Refusal :=
  Event.run s State.guardExpired

end Sys2Proof.Machine
end

