-- ==== Sys2Proof/Machine/Store.lean ====
section
/-! DEFINITION. The profile store: its scan (R148), staging and protection (R150 to R152), background operations (R153 to
R155), reads and the directory report (R156), and the array arbiter (R159). -/

namespace Sys2Proof.Machine

/-! ## Areas and their judgment -/

/-- The id of an area (R147). -/
def areaId (i : Fin 16) : Nat := i.val + 1

/-- The byte of an area at an offset; free in an area caught in the middle of a phase (R148, log 9). -/
def Area.byteAt (a : Area) (offset : Nat) : Byte :=
  match a.disturbed with
  | some n => Config.disturbedByte n offset
  | none => a.mem.read offset

/-- Bytes of an area, as they stand (R156). -/
def Area.readBytes (a : Area) (offset n : Nat) : List Byte :=
  (List.range n).map fun k => a.byteAt (offset + k)

/-- The record of an area (R176). -/
def Area.record (a : Area) : List Byte := a.mem.readRun 0 recordLength

/-- R147, R148: what the scan makes of an area: EMPTY, VALID with its fields, or INVALID; one caught in the middle of a
phase is INVALID. -/
def Area.judged (a : Area) (id : Nat) : DirEntry :=
  if a.disturbed.isSome then .invalid
  else if a.mem.isErased then .empty
  else if recordPasses a.record id then .valid (recordHeader a.record)
  else .invalid

/-- One directory entry. -/
def StoreState.entry (t : StoreState) (i : Fin 16) : DirEntry := t.directory.get i

/-- One directory entry replaced. -/
def StoreState.putEntry (i : Fin 16) (e : DirEntry) (t : StoreState) : StoreState :=
  { t with directory := t.directory.set i e }

/-- An area given new bytes. -/
def StoreState.putArea (i : Fin 16) (m : Memory) (t : StoreState) : StoreState :=
  { t with areas := t.areas.set i { mem := m, disturbed := none } }

/-- R148: the entry an area's bytes give. -/
def StoreState.judgedEntry (t : StoreState) (i : Fin 16) : DirEntry :=
  (t.areas.get i).judged (areaId i)

/-- R148: the protect set a control record gives. -/
def Control.protects : Control → BitVec 16
  | .erased => 0
  | .good set => set
  | .bad => 0xFFFF

/-- The area is in the protect set (R173: bit n - 1 is area n). -/
def StoreState.isProtected (t : StoreState) (i : Fin 16) : Bool :=
  t.protectSet.getLsbD i.val

/-- R148: the whole array judged. -/
def StoreState.scanned (t : StoreState) : StoreState :=
  { t with
    scanning := false
    protectSet := t.control.protects
    directory := Table.ofFn t.judgedEntry }

/-- R148, R3: the scan is complete: a control record that fails its check raises STORE_ERROR, and start-up goes on. -/
def State.scanCompleted (s : State) : State :=
  if s.store.scanning then
    let t := s.updStore StoreState.scanned
    (if s.store.control = .bad then t.raise .storeError else t).beginSelfTest
  else s

/-! ## The arbiter (R159) -/

/-- R159: no phase is running: no operation, one that has not begun, or one that is suspended. -/
def StoreState.arrayFree (t : StoreState) : Bool :=
  match t.operation with
  | some o => !o.begun || decide (o.suspension = .suspended)
  | none => true

/-- R159: an operation in ERASING or PROGRAMMING below the limit is asked to suspend. -/
def Operation.asked (o : Operation) : Operation :=
  if o.suspension = .none ∧ o.phase ≠ .verifying ∧ o.count < 8 then { o with suspension := .asked } else o

/-- R159: a read claims the array: it is served at once, or waits and may ask for a suspension. One that arrives while the
operation stands in its eighth suspension joins the reads being served: the Suspension bullet says that it joins, the
Limit bullet that it waits (log 32). One that arrives in VERIFYING while a suspension asked for earlier is pending or in
progress is served in that suspension: the Suspension bullet says that it joins, the VERIFYING bullet that it waits (log
38). -/
def StoreState.claim (c : Claim) (t : StoreState) : StoreState :=
  if t.arrayFree ∧ t.serving = none ∧ t.waiting = [] then { t with serving := some c }
  else if t.arrayFree then { t with waiting := t.waiting ++ [c] }
  else { t with waiting := t.waiting ++ [c], operation := t.operation.map Operation.asked }

/-- R159: the operation goes on where it stopped, or begins. -/
def Operation.resumed (o : Operation) : Operation :=
  { o with begun := true, suspension := .none }

/-- R159: a read has ended: the next is served, or no read waits and the operation goes on. -/
def StoreState.serveNext (t : StoreState) : StoreState :=
  match t.waiting with
  | c :: rest => { t with serving := some c, waiting := rest }
  | [] => { t with serving := none, operation := t.operation.map Operation.resumed }

/-- R159: the operation has ended: reads that waited for it are served. -/
def StoreState.serveAfterOperation (t : StoreState) : StoreState :=
  if t.serving = none then
    match t.waiting with
    | c :: rest => { t with serving := some c, waiting := rest }
    | [] => t
  else t

/-- R159: a suspension asked for is reached, in whatever phase (log 29): the count increments and the waiting reads are
served. -/
def StoreState.suspended (t : StoreState) : StoreState :=
  match t.operation with
  | some o =>
    if o.suspension = .asked then
      let p : Operation := { o with suspension := .suspended, count := o.count + 1 }
      StoreState.serveAfterOperation { t with operation := some p }
    else t
  | none => t

/-- R153 to R155, R159: an operation is accepted; it begins when no read is served or waits. One that has not begun stands
in its first phase, not suspended, and STORE_DIRECTORY and STATUS report that: R156 does not say which phase it has
before it begins (log 33). -/
def StoreState.accept (kind : OperationKind) (phase : Phase) (tag : Byte) (t : StoreState) : StoreState :=
  let o : Operation :=
    { kind := kind
      phase := phase
      begun := decide (t.serving = none) && t.waiting.isEmpty
      suspension := .none
      count := 0
      tag := tag }
  { t with operation := some o }

/-- The operation whose phase is running: begun and not suspended. -/
def StoreState.running (t : StoreState) (phase : Phase) : Option Operation :=
  match t.operation with
  | some o => if o.begun = true ∧ o.suspension ≠ .suspended ∧ o.phase = phase then some o else none
  | none => none

/-- R151, R153: an operation ends: the latch clears, result and tag are recorded, STORE_DONE is queued, and waiting
reads are served. -/
def State.endOperation (tag : Byte) (result : OperationResult) (s : State) : State :=
  (s.updStore fun t => StoreState.serveAfterOperation
    { t with operation := none, permit := false, lastResult := some (result, tag) }).notify (.storeDone tag result)

/-! ## Abandonment (R152) -/

/-- R152, R154: the entries of an operation's areas take the scan's judgment: of the area worked on, and under ALL of
those not yet reached; a protect write's set takes the control record's. -/
def StoreState.rejudged (kind : OperationKind) (t : StoreState) : StoreState :=
  match kind with
  | .commit i => t.putEntry i (t.judgedEntry i)
  | .erase i => t.putEntry i (t.judgedEntry i)
  | .eraseAll current =>
    { t with directory := Table.ofFn fun i => if i < current then t.entry i else t.judgedEntry i }
  | .protect _ => { t with protectSet := t.control.protects }

/-- R152: an operation in ERASING or PROGRAMMING is abandoned at once; one in VERIFYING goes on. -/
def State.abandonOperation (s : State) : State :=
  match s.store.operation with
  | some o =>
    if o.phase = .verifying then s
    else (s.updStore fun t => t.interrupt.rejudged o.kind).endOperation o.tag .aborted
  | none => s

/-! ## Staging and protection (R150, R151) -/

/-- R150: a commit is in progress. -/
def StoreState.committing (t : StoreState) : Bool :=
  match t.operation with
  | some o =>
    match o.kind with
    | .commit _ => true
    | _ => false
  | none => false

/-- R150: STORE_STAGE. -/
def State.storeStage (body : List Byte) (s : State) : State :=
  let offset := numberAt body 0 2
  let n := numberAt body 2 2
  if n = 0 ∨ 256 < n ∨ 4096 < offset + n then s.refuse .badValue
  else if s.store.committing then s.refuse .busy
  else (s.updStore fun t => { t with staging := t.staging.writeRun offset (body.drop 4) }).done .nothing

/-- R151: writing is locked: lockdown is in force or WPROT is asserted. -/
def State.locked (s : State) : Bool := s.store.lockdown || s.pins.wprot

/-- R151: STORE_PERMIT. -/
def State.storePermit (s : State) : State :=
  if s.locked then s.refuse .locked else (s.updStore fun t => { t with permit := true }).done .nothing

/-- R151: STORE_REVOKE. -/
def State.storeRevoke (s : State) : State :=
  (s.updStore fun t => { t with permit := false }).done .nothing

/-- R151, R152: STORE_LOCKDOWN. -/
def State.storeLockdown (s : State) : State :=
  ((s.updStore fun t => { t with lockdown := true, permit := false }).done .nothing).abandonOperation

/-! ## Background operations accepted (R153 to R155) -/

/-- R157: an area from which a load is in progress. -/
def StoreState.loading (t : StoreState) (i : Fin 16) : Bool :=
  match t.load with
  | some l => decide (l.profileId = areaId i)
  | none => false

/-- R154: a load from some area is in progress. -/
def StoreState.loadingAny (t : StoreState) : Bool :=
  match t.load with
  | some l => decide (1 ≤ l.profileId)
  | none => false

/-- R153 to R155: the latch, protection and lock tests, and the test for an operation in progress. -/
def State.writeRefusal (shielded : Bool) (s : State) : Option Reason :=
  if s.store.permit = false then some .noPermit
  else if shielded then some .prot
  else if s.locked then some .locked
  else if s.store.operation.isSome then some .busy
  else none

/-- R153: the staged record (R176). -/
def StoreState.stagedRecord (t : StoreState) : List Byte := t.staging.readRun 0 recordLength

/-- R153: the refusal of a commit of area `i`, if any. -/
def State.commitRefusal (i : Fin 16) (s : State) : Option Reason :=
  match s.writeRefusal (s.store.isProtected i) with
  | some r => some r
  | none =>
    if s.store.loading i then some .busy
    else if recordPasses s.store.stagedRecord (areaId i) then none
    else some .badValue

/-- The tag of the request in hand. -/
def State.tagInHand (s : State) : Byte :=
  match s.line.inHand with
  | some h => h.tag
  | none => 0

/-- R153: STORE_COMMIT. -/
def State.storeCommit (body : List Byte) (s : State) : State :=
  match areaOf (numberAt body 0 1) with
  | some i =>
    match s.commitRefusal i with
    | some r => s.refuse r
    | none =>
      let tag := s.tagInHand
      (s.updStore fun t => (t.putEntry i .busy).accept (.commit i) .erasing tag).taken (.tag tag)
  | none => s.refuse .badValue

/-- R154: STORE_ERASE of one area. -/
def State.eraseOne (i : Fin 16) (s : State) : State :=
  match s.writeRefusal (s.store.isProtected i) with
  | some r => s.refuse r
  | none =>
    if s.store.loading i then s.refuse .busy
    else
      let tag := s.tagInHand
      (s.updStore fun t => (t.putEntry i .busy).accept (.erase i) .erasing tag).taken .nothing

/-- R154: STORE_ERASE of ALL. -/
def State.eraseAll (s : State) : State :=
  match s.writeRefusal (decide (s.store.protectSet ≠ 0)) with
  | some r => s.refuse r
  | none =>
    if s.store.loadingAny then s.refuse .busy
    else
      let tag := s.tagInHand
      (s.updStore fun t => StoreState.accept (.eraseAll 0) .erasing tag
        { t with directory := Table.fill 16 .busy }).taken .nothing

/-- R154: STORE_ERASE names an area, or 255 for ALL. -/
def State.storeErase (body : List Byte) (s : State) : State :=
  let n := numberAt body 0 1
  if n = 255 then s.eraseAll
  else
    match areaOf n with
    | some i => s.eraseOne i
    | none => s.refuse .badValue

/-- R155: STORE_PROTECT. -/
def State.storeProtect (body : List Byte) (s : State) : State :=
  match s.writeRefusal false with
  | some r => s.refuse r
  | none =>
    let set := BitVec.ofNat 16 (numberAt body 0 2)
    let tag := s.tagInHand
    (s.updStore fun t => t.accept (.protect set) .programming tag).taken .nothing

/-! ## Phases (R153 to R155) -/

/-- R154: an area tested at the end of its erase. -/
def StoreState.erasedEntry (t : StoreState) (i : Fin 16) : DirEntry :=
  if (t.areas.get i).mem.isErased then .empty else .invalid

/-- R154: the entry of an area whose erase has ended; one that is not erased raises STORE_ERROR. -/
def State.testErased (i : Fin 16) (s : State) : State :=
  let e := s.store.erasedEntry i
  let t := s.updStore (StoreState.putEntry i e)
  if e = .empty then t else t.raise .storeError

/-- OK or FAILED. -/
def OperationResult.ofBool (ok : Bool) : OperationResult :=
  if ok then .ok else .failed

/-- R153, R154: the next phase, or the next area of an ALL erase. -/
def State.putOperation (o : Operation) (s : State) : State :=
  s.updStore fun t => { t with operation := some o }

/-- R153, R154: what follows the erase of an area. Under ALL the erase of the next area begins in the same event, as a
commit's programming does (log 35): R154 does not say when it begins, so a stop after that finds the next area caught in
the middle (log 39). -/
def State.afterErase (o : Operation) (s : State) : State :=
  match o.kind with
  | .commit _ => s.putOperation { o with phase := .programming }
  | .erase i =>
    let t := s.testErased i
    t.endOperation o.tag (OperationResult.ofBool (decide (t.store.entry i = .empty)))
  | .eraseAll i =>
    let t := s.testErased i
    if h : i.val + 1 < 16 then t.putOperation { o with kind := .eraseAll ⟨i.val + 1, h⟩ }
    else t.endOperation o.tag (OperationResult.ofBool (t.store.directory.all fun e => decide (e = .empty)))
  | .protect _ => s

/-- The area an ERASING phase works on; a protect write has none. -/
def OperationKind.erases : OperationKind → Option (Fin 16)
  | .commit i => some i
  | .erase i => some i
  | .eraseAll i => some i
  | .protect _ => none

/-- ERASING_END (R153, R154): the area is erased, but for the bytes the erase left (log 19). -/
def State.erasingEnded (unerased : List Host.Cell) (s : State) : State :=
  match s.store.running .erasing with
  | some o =>
    match o.kind.erases with
    | some i => (s.updStore (StoreState.putArea i (Memory.erased.overlay unerased))).afterErase o
    | none => s
  | none => s

/-- PROGRAMMING_END (R153, R155): the staged record is in the area, but for the bytes that did not take (log 19); or the
new protect set is in the control record and in force. -/
def State.programmingEnded (wrong : List Host.Cell) (s : State) : State :=
  match s.store.running .programming with
  | some o =>
    match o.kind with
    | .commit i =>
      let m := (((s.store.areas.get i).mem).writeRun 0 s.store.stagedRecord).overlay wrong
      (s.updStore (StoreState.putArea i m)).putOperation { o with phase := .verifying }
    | .protect set =>
      (s.updStore fun t => { t with control := .good set, protectSet := set }).endOperation o.tag .ok
    | .erase _ | .eraseAll _ => s
  | none => s

/-- R153: the area read back matches the staged record, which is well formed. -/
def StoreState.verifies (t : StoreState) (i : Fin 16) : Bool :=
  decide ((t.areas.get i).record = t.stagedRecord) && recordPasses (t.areas.get i).record (areaId i)

/-- VERIFYING_END (R153). -/
def State.verifyingEnded (s : State) : State :=
  match s.store.running .verifying with
  | some o =>
    match o.kind with
    | .commit i =>
      if s.store.verifies i then
        (s.updStore fun t => t.putEntry i (.valid (recordHeader (t.areas.get i).record))).endOperation o.tag .ok
      else ((s.updStore (StoreState.putEntry i .invalid)).raise .storeError).endOperation o.tag .failed
    | .erase _ | .eraseAll _ | .protect _ => s
  | none => s

/-! ## Reads and the directory (R156) -/

/-- R156: STORE_READ claims the array and holds the decoder. -/
def State.storeRead (body : List Byte) (s : State) : State :=
  let offset := numberAt body 1 2
  let n := numberAt body 3 2
  match areaOf (numberAt body 0 1) with
  | some i =>
    if n = 0 ∨ 256 < n ∨ 4096 < offset + n then s.refuse .badValue
    else if s.store.entry i = .busy then s.refuse .busy
    else (s.updStore (StoreState.claim .storeRead)).updLine (LineState.hold (.read i offset n))
  | none => s.refuse .badValue

/-- R156: the read that the request in hand waits for. -/
def LineState.heldRead (l : LineState) : Option (Fin 16 × Nat × Nat) :=
  match l.inHand with
  | some h =>
    match h.wait with
    | .read i offset n => some (i, offset, n)
    | _ => none
  | none => none

/-- STORE_READ_END (R156, R159): the bytes as they stand, and the array goes on. -/
def State.storeReadEnded (s : State) : State :=
  match s.store.serving, s.line.heldRead with
  | some .storeRead, some (i, offset, n) =>
    (s.done (.data ((s.store.areas.get i).readBytes offset n))).updStore StoreState.serveNext
  | _, _ => s

/-- R156: what STORE_DIRECTORY carries. -/
def State.directoryReport (s : State) : DirectoryReport where
  entries := s.store.directory
  protectSet := s.store.protectSet
  lockdown := s.store.lockdown
  wprot := s.pins.wprot
  permit := s.store.permit
  operation := s.store.operation
  lastResult := s.store.lastResult

/-! ## The rows -/

/-- STORE_SCAN_COMPLETE (R148). -/
def execStoreScanComplete (s : State) : Host.Outcome State Fault Refusal :=
  Event.run s State.scanCompleted

/-- STORE_STAGE (R150). -/
def execStoreStage (tag : Byte) (body : List Byte) (s : State) : Host.Outcome State Fault Refusal :=
  Event.run s (State.request .storeStage tag body true (State.storeStage body))

/-- STORE_PERMIT (R151). -/
def execStorePermit (tag : Byte) (body : List Byte) (s : State) : Host.Outcome State Fault Refusal :=
  Event.run s (State.request .storePermit tag body true State.storePermit)

/-- STORE_REVOKE (R151). -/
def execStoreRevoke (tag : Byte) (body : List Byte) (s : State) : Host.Outcome State Fault Refusal :=
  Event.run s (State.request .storeRevoke tag body true State.storeRevoke)

/-- STORE_LOCKDOWN (R151, R152). -/
def execStoreLockdown (tag : Byte) (body : List Byte) (s : State) : Host.Outcome State Fault Refusal :=
  Event.run s (State.request .storeLockdown tag body true State.storeLockdown)

/-- STORE_COMMIT (R153). -/
def execStoreCommit (tag : Byte) (body : List Byte) (s : State) : Host.Outcome State Fault Refusal :=
  Event.run s (State.request .storeCommit tag body true (State.storeCommit body))

/-- STORE_ERASE (R154). -/
def execStoreErase (tag : Byte) (body : List Byte) (s : State) : Host.Outcome State Fault Refusal :=
  Event.run s (State.request .storeErase tag body true (State.storeErase body))

/-- STORE_PROTECT (R155). -/
def execStoreProtect (tag : Byte) (body : List Byte) (s : State) : Host.Outcome State Fault Refusal :=
  Event.run s (State.request .storeProtect tag body true (State.storeProtect body))

/-- STORE_READ (R156). -/
def execStoreRead (tag : Byte) (body : List Byte) (s : State) : Host.Outcome State Fault Refusal :=
  Event.run s (State.request .storeRead tag body true (State.storeRead body))

/-- STORE_READ_END (R156). -/
def execStoreReadEnd (s : State) : Host.Outcome State Fault Refusal :=
  Event.run s State.storeReadEnded

/-- STORE_DIRECTORY (R156). -/
def execStoreDirectory (tag : Byte) (body : List Byte) (s : State) : Host.Outcome State Fault Refusal :=
  Event.run s (State.request .storeDirectory tag body true fun s => s.done (.directory s.directoryReport))

/-- ERASING_END (R153, R154). -/
def execErasingEnd (unerased : List Host.Cell) (s : State) : Host.Outcome State Fault Refusal :=
  Event.run s (State.erasingEnded unerased)

/-- PROGRAMMING_END (R153, R155). -/
def execProgrammingEnd (wrong : List Host.Cell) (s : State) : Host.Outcome State Fault Refusal :=
  Event.run s (State.programmingEnded wrong)

/-- VERIFYING_END (R153). -/
def execVerifyingEnd (s : State) : Host.Outcome State Fault Refusal :=
  Event.run s State.verifyingEnded

/-- SUSPENSION_POINT (R159). -/
def execSuspensionPoint (s : State) : Host.Outcome State Fault Refusal :=
  Event.run s fun s => s.updStore StoreState.suspended

/-- WPROT_ASSERTED (R151, R152). -/
def execWprotAsserted (s : State) : Host.Outcome State Fault Refusal :=
  Event.runPin s (fun p => { p with wprot := true }) State.abandonOperation

/-- WPROT_RELEASED (R151): the level alone changes. -/
def execWprotReleased (s : State) : Host.Outcome State Fault Refusal :=
  Event.runPin s (fun p => { p with wprot := false }) id

end Sys2Proof.Machine
end

