-- ==== Sys2Proof/Machine/Loads.lean ====
section
/-! DEFINITION. Loading a profile into a bank: LOAD_PROFILE in its two forms (R124, R157) and the end of a load (R125,
R158). -/

namespace Sys2Proof.Machine

/-- R157: the profile chosen, or the refusal. -/
inductive Choice where
  | profile (id : Nat)
  | refused (r : Reason)
deriving DecidableEq, Repr

/-- R157: the profile chosen by id. -/
def StoreState.chooseById (t : StoreState) (n : Nat) : Choice :=
  if n = 0 then .profile 0
  else
    match areaOf n with
    | some i =>
      match t.entry i with
      | .busy => .refused .busy
      | .empty | .invalid => .refused .noProfile
      | .valid _ => .profile n
    | none => .refused .badValue

/-- R157: the width of the bore band of an area that is VALID and matches a lens code and a bore. -/
def StoreState.matching (t : StoreState) (lens bore : Nat) (i : Fin 16) : Option Nat :=
  match t.entry i with
  | .valid h =>
    if h.lens = lens ∧ h.boreMin ≤ bore ∧ bore ≤ h.boreMax then some (h.boreMax - h.boreMin) else none
  | _ => none

/-- R157: the narrower of the best so far and one more area; among equals the lower id stays. -/
def narrower (width : Fin 16 → Option Nat) (best : Option (Fin 16)) (i : Fin 16) : Option (Fin 16) :=
  match best with
  | none => (width i).map fun _ => i
  | some j =>
    match width j, width i with
    | some w, some v => if v < w then some i else some j
    | _, _ => some j

/-- R157: the profile chosen by lens code and bore. -/
def StoreState.chooseByBore (t : StoreState) (lens bore : Nat) : Choice :=
  match (List.finRange 16).foldl (narrower (t.matching lens bore)) none with
  | some i => .profile (areaId i)
  | none => .refused .noProfile

/-- R124: the bank a load fills. -/
def Bank.loadingOf (id : Nat) : Bank where
  state := .loading
  profileId := some id
  references := 0
  contents := Option.none

/-- R125: the bank a load has filled. -/
def Bank.loadedWith (id : Nat) (p : Profile) : Bank where
  state := .loaded
  profileId := some id
  references := 0
  contents := some p

/-- R125, R126: a load ends OK: the bank is LOADED and is swapped in at once when the sensor path is idle. -/
def State.fillBank (which : BankId) (id : Nat) (p : Profile) (s : State) : State :=
  (s.updEngine fun e => e.setBank which (Bank.loadedWith id p)).swapIfDue

/-- R158: a load ends: its record becomes absent and PROFILE_LOADED is queued. -/
def State.reportLoad (l : LoadRecord) (result : LoadResult) (s : State) : State :=
  (s.updStore fun t => { t with load := none }).notify (.profileLoaded l.tag l.profileId l.bank result)

/-- R157, R158: an accepted load: TAKEN; profile 0 is filled in the same event from the built-in tables, any other
claims the array. R158 ends the load of profile 0 in the event of its acceptance and after its reply has been placed; where
R164 makes the reply wait, with sixteen messages queued, the load ends at once and the reply alone waits (log 40). -/
def State.acceptLoad (id : Nat) (which : BankId) (s : State) : State :=
  let l : LoadRecord := { profileId := id, bank := which, tag := s.tagInHand }
  let t := ((s.updEngine fun e => e.setBank which (Bank.loadingOf id)).updStore fun t =>
    { t with load := some l }).taken (.load l.tag id which)
  if id = 0 then (t.fillBank which 0 Profile.builtin).reportLoad l .ok
  else t.updStore (StoreState.claim .load)

/-- R124, R157: a chosen profile needs the bank that is not CURRENT, while it is EMPTY. -/
def State.loadChosen (c : Choice) (s : State) : State :=
  match c with
  | .profile id =>
    let which := s.engine.current.other
    if (s.engine.bank which).state = .empty then s.acceptLoad id which else s.refuse .busy
  | .refused r => s.refuse r

/-- R157: LOAD_PROFILE by id. -/
def State.loadById (body : List Byte) (s : State) : State :=
  if numberAt body 0 1 = 1 then s.loadChosen (s.store.chooseById (numberAt body 1 1)) else s.refuse .badValue

/-- R157: LOAD_PROFILE by bore. -/
def State.loadByBore (body : List Byte) (s : State) : State :=
  if numberAt body 0 1 = 2 then s.loadChosen (s.store.chooseByBore (numberAt body 1 1) (numberAt body 2 2))
  else s.refuse .badValue

/-- R158: the record read passes: the bank is filled. -/
def State.loadPassed (l : LoadRecord) (record : List Byte) (s : State) : State :=
  (s.fillBank l.bank l.profileId (recordProfile record)).reportLoad l .ok

/-- R158: the record read fails: the bank is EMPTY, the area INVALID, STORE_ERROR raised. -/
def State.loadFailed (l : LoadRecord) (i : Fin 16) (s : State) : State :=
  let t := s.updEngine fun e => e.setBank l.bank Bank.none
  ((t.updStore (StoreState.putEntry i .invalid)).raise .storeError).reportLoad l .corrupt

/-- R158: the area as the read finds it, with the bytes that have decayed since it was judged (log 19). -/
def StoreState.decay (i : Fin 16) (cells : List Host.Cell) (t : StoreState) : StoreState :=
  { t with areas := t.areas.modify i fun a => { a with mem := a.mem.overlay cells } }

/-- LOAD_END (R158, R159): the record is tested, the load ends, and the array goes on. -/
def State.loadEnded (decayed : List Host.Cell) (s : State) : State :=
  match s.store.serving, s.store.load with
  | some .load, some l =>
    match areaOf l.profileId with
    | some i =>
      let t := s.updStore (StoreState.decay i decayed)
      let record := (t.store.areas.get i).record
      let u := if recordPasses record l.profileId then t.loadPassed l record else t.loadFailed l i
      u.updStore StoreState.serveNext
    | none => s
  | _, _ => s

/-- LOAD_PROFILE_BY_ID (R157). -/
def execLoadProfileById (tag : Byte) (body : List Byte) (s : State) : Host.Outcome State Fault Refusal :=
  Event.run s (State.request .loadProfile tag body (codeNotOf [2] 0 body) (State.loadById body))

/-- LOAD_PROFILE_BY_BORE (R157). -/
def execLoadProfileByBore (tag : Byte) (body : List Byte) (s : State) : Host.Outcome State Fault Refusal :=
  Event.run s (State.request .loadProfile tag body (codeNotOf [1] 0 body) (State.loadByBore body))

/-- LOAD_END (R158). -/
def execLoadEnd (decayed : List Host.Cell) (s : State) : Host.Outcome State Fault Refusal :=
  Event.run s (State.loadEnded decayed)

end Sys2Proof.Machine
end

