-- ==== Sys2Proof/Machine/Requests.lean ====
section
/-! DEFINITION. The line interface's own requests: identity, status, parameters, conditions, RESET, and the reply to a
kind that is not defined (R163, R167 to R170, R175). -/

namespace Sys2Proof.Machine

/-- R169: a bank as STATUS reports it. -/
def Bank.report (k : Bank) : BankReport where
  state := k.state
  profileId := k.profileId
  references := k.references

/-- R6: the current run record while a run is open, else the last one. -/
def RunState.reported (r : RunState) : Option RunRecord :=
  match r.current with
  | some c => some c
  | none => r.last

/-- R169: the snapshot STATUS carries. -/
def State.statusReport (s : State) : StatusReport where
  part := s.run.part
  run := s.run.reported
  conditions := s.line.conditions
  lockout := s.ring.lockout
  balance := s.balance.state
  slots := s.frames.slots.map fun o => o.map Frame.state
  bankA := s.engine.bankA.report
  bankB := s.engine.bankB.report
  operation := s.store.operation.map fun o => (o.kind, o.phase)
  speed := s.travel.speed
  method := s.travel.method
  direction := s.travel.direction
  position := s.travel.position
  countdown := s.travel.countdown
  supply := s.monitor.rest.get 0
  temperatures := ⟨[s.monitor.rest.get 1, s.monitor.rest.get 2, s.monitor.rest.get 3, s.monitor.rest.get 4], rfl⟩

/-- R168: GET_PARAM. -/
def State.getParam (body : List Byte) (s : State) : State :=
  let id := numberAt body 0 1
  match Param.ofId id with
  | some p => s.done (.param id (s.param p))
  | none => s.refuse .badValue

/-- R29: a TRIGGER_SPACING below an active countdown lowers it at once. -/
def TravelState.lowerCountdown (spacing : Nat) (v : TravelState) : TravelState :=
  { v with countdown := v.countdown.map fun c => min c spacing }

/-- R168, R29: an accepted SET_PARAM. -/
def State.putParam (p : Param) (value : Nat) (s : State) : State :=
  let t := s.updLine fun l => { l with params := l.params.put p value }
  if p = .triggerSpacing then t.updTravel (TravelState.lowerCountdown value) else t

/-- R168: SET_PARAM. -/
def State.setParam (body : List Byte) (s : State) : State :=
  let id := numberAt body 0 1
  let value := numberAt body 1 4
  match Param.ofId id with
  | some p =>
    if s.line.params.accepts p value then (s.putParam p value).done (.param id value) else s.refuse .badValue
  | none => s.refuse .badValue

/-- R53: every reason in the lockout set is tested for release. -/
def State.testAllReleases (s : State) : State :=
  ((s.testRelease .thermal).testRelease .supply).testRelease .guard

/-- R167: the flags a mask names are cleared, then every lockout reason is tested. -/
def State.clearFlags (mask : Nat) (s : State) : State :=
  (s.updLine fun l =>
    { l with conditions := clearedConditions l.conditions (BitVec.ofNat 20 mask) }).testAllReleases

/-- R167, R173: CLEAR_CONDITIONS. -/
def State.clearConditions (body : List Byte) (s : State) : State :=
  let mask := numberAt body 0 4
  if mask < 1048576 then
    let t := s.clearFlags mask
    t.done (.conditions t.line.conditions t.ring.lockout)
  else s.refuse .badValue

/-- IDENTIFY (R169). -/
def execIdentify (tag : Byte) (body : List Byte) (s : State) : Host.Outcome State Fault Refusal :=
  Event.run s (State.request .identify tag body true fun s => s.done .identity)

/-- STATUS (R169). -/
def execStatus (tag : Byte) (body : List Byte) (s : State) : Host.Outcome State Fault Refusal :=
  Event.run s (State.request .status tag body true fun s => s.done (.status s.statusReport))

/-- GET_PARAM (R168). -/
def execGetParam (tag : Byte) (body : List Byte) (s : State) : Host.Outcome State Fault Refusal :=
  Event.run s (State.request .getParam tag body true (State.getParam body))

/-- SET_PARAM (R168). -/
def execSetParam (tag : Byte) (body : List Byte) (s : State) : Host.Outcome State Fault Refusal :=
  Event.run s (State.request .setParam tag body true (State.setParam body))

/-- CLEAR_CONDITIONS (R167). -/
def execClearConditions (tag : Byte) (body : List Byte) (s : State) : Host.Outcome State Fault Refusal :=
  Event.run s (State.request .clearConditions tag body true (State.clearConditions body))

/-- RESET (R170): DONE; the decoder then takes no further request until the reply has left the line. -/
def execReset (tag : Byte) (body : List Byte) (s : State) : Host.Outcome State Fault Refusal :=
  Event.run s (State.request .reset tag body true fun s => s.done .nothing)

/-- R163, R175: a message whose kind is no request kind is taken and refused UNKNOWN_KIND in every part state. -/
def State.unknownKind (kind tag : Byte) (body : List Byte) (s : State) : State :=
  if s.line.canTake kind tag body && !isRequestCode kind then
    (s.updLine (LineState.take kind tag)).answer (.unknownKind kind)
  else s

/-- UNKNOWN_KIND (R163, R175). -/
def execUnknownKind (kind tag : Byte) (body : List Byte) (s : State) : Host.Outcome State Fault Refusal :=
  Event.run s (State.unknownKind kind tag body)

end Sys2Proof.Machine
end

