-- ==== Sys2Proof/Machine/Sensor.lean ====
section
/-! DEFINITION. The sensor port and readout (R111 to R115). -/

namespace Sys2Proof.Machine

/-- R111: the slot the port follows. -/
def State.readingSlot (s : State) : Option (Fin 6) :=
  s.slotIn fun p => decide (p = .reading)

/-- R115: the readout ends in a sensor frame error. -/
def State.sensorError (i : Fin 6) (s : State) : State :=
  let run := (s.frameAt i).bind Frame.run
  let t := (s.raise .sensorFrameError).updFrames fun f => { f with readoutLimit := none, port := .idle }
  let u := (t.discard i).updRun (RunState.countSkipped run)
  ((u.closeIfIdle).swapIfDue).servePending

/-- R14: reaching a nonzero requested count in RUNNING is a run end. -/
def State.endRunAtCount (s : State) : State :=
  match s.run.current with
  | some c =>
    if c.requested ≠ 0 ∧ c.requested ≤ c.captured.toNat then s.endRun .countReached else s
  | none => s

/-- R116: the slot is WAITING and joins the tail of the correction queue; an idle engine takes it at once. -/
def State.joinQueue (i : Fin 6) (s : State) : State :=
  ((s.modifyFrame i fun f => { f with state := .waiting }).updFrames fun f =>
    { f with queue := f.queue ++ [i] }).engineTake

/-- R114, step 4: the capture of a run is counted, which may end the run; in STOPPING the run closes. -/
def State.countCapture (number : Option Nat) (s : State) : State :=
  let t := s.updRun (RunState.countCaptured number)
  let u := if number.isSome ∧ number = s.openRun then t.endRunAtCount else t
  u.closeIfIdle

/-- R114: the readout-complete event of a slot. -/
def State.readoutComplete (i : Fin 6) (s : State) : State :=
  let run := (s.frameAt i).bind Frame.run
  let t := s.updFrames fun f => { f with readoutLimit := none, port := .idle }
  let u := (t.analyse i).joinQueue i
  ((u.countCapture run).swapIfDue).servePending

/-- R111: frame-start. -/
def State.frameStarted (s : State) : State :=
  match s.readingSlot, s.frames.port with
  | some _, .waiting => s.updFrames fun f => { f with port := .receiving 0 false }
  | some i, .receiving _ _ => s.sensorError i
  | _, _ => s

/-- R113: one green sample gathered into its zone. -/
def ZoneStat.gather (v : Nat) (z : ZoneStat) : ZoneStat where
  samples := z.samples + 1
  sum := z.sum + v
  clipped := if 1020 ≤ v then z.clipped + 1 else z.clipped

/-- Section 7.4: even lines are green, red from column 0; odd lines blue, green. -/
def isGreen (x y : Nat) : Bool :=
  decide (x % 2 = y % 2)

/-- R112, R113: one sample, gathered when it is green and its cell lies in a zone. -/
def gatherSample (g : Geometry) (y : Nat) (stats : Table 48 ZoneStat) (x : Nat) (v : BitVec 10) :
    Table 48 ZoneStat :=
  if isGreen x y then
    match g.zoneOfSample x y with
    | some z => stats.modify z (ZoneStat.gather v.toNat)
    | none => stats
  else stats

/-- R112, R113: the samples of line `y` from column `x` on. -/
def gatherLine (g : Geometry) (y : Nat) : Nat → List (BitVec 10) → Table 48 ZoneStat → Table 48 ZoneStat
  | _, [], stats => stats
  | x, v :: rest, stats => gatherLine g y (x + 1) rest (gatherSample g y stats x v)

/-- R111, R113: a line stored in the slot and gathered. -/
def Frame.storeLine (g : Geometry) (y : Nat) (line : List (BitVec 10)) (f : Frame) : Frame :=
  { f with
    raw := f.raw ++ [line]
    stats := f.stats.map (gatherLine g y 0 line) }

/-- R111: line data; samples beyond column 1,279 and lines beyond the 1,024th are neither stored nor gathered. -/
def State.lineReceived (samples : List (BitVec 10)) (s : State) : State :=
  match s.readingSlot, s.frames.port with
  | some i, .receiving n flagged =>
    let odd := flagged || decide (samples.length ≠ 1280)
    let t := s.updFrames fun f => { f with port := .receiving (n + 1) odd }
    if n < 1024 then
      t.modifyFrame i fun f => f.storeLine (s.engine.tables f.bank).geometry n (samples.take 1280)
    else t
  | _, _ => s

/-- R111, R114: frame-end is judged on the line counts. -/
def State.frameEnded (s : State) : State :=
  match s.readingSlot, s.frames.port with
  | some i, .receiving n flagged =>
    if n = 1024 ∧ flagged = false then s.readoutComplete i else s.sensorError i
  | some i, .waiting => s.sensorError i
  | _, _ => s

/-- R111: the readout limit expires while a slot is READING. -/
def State.readoutExpired (s : State) : State :=
  match s.readingSlot, s.frames.readoutLimit with
  | some i, some _ => s.sensorError i
  | _, _ => s

/-- SENSOR_FRAME_START (R111). -/
def execSensorFrameStart (s : State) : Host.Outcome State Fault Refusal :=
  Event.run s State.frameStarted

/-- SENSOR_LINE (R111 to R113). -/
def execSensorLine (samples : List (BitVec 10)) (s : State) : Host.Outcome State Fault Refusal :=
  Event.run s (State.lineReceived samples)

/-- SENSOR_FRAME_END (R111, R114). -/
def execSensorFrameEnd (s : State) : Host.Outcome State Fault Refusal :=
  Event.run s State.frameEnded

/-- READOUT_LIMIT_EXPIRY (R111). -/
def execReadoutLimitExpiry (s : State) : Host.Outcome State Fault Refusal :=
  Event.run s State.readoutExpired

end Sys2Proof.Machine
end

