-- ==== Sys2Proof/Machine/Transfers.lean ====
section
/-! DEFINITION. TRANSFER_GRANT (R137 to R139) and TRANSFER_STOP (R143). -/

namespace Sys2Proof.Machine

/-- R137, R139: the tile the tile sender would begin next. -/
def Transfer.begins (t : Transfer) (nextUnsent : Nat) : Nat :=
  if t.onLine.isSome then nextUnsent + 1 else nextUnsent

/-- R138: the tile a transfer starts at: the start given, or for CONTINUE where a HELD slot stood, and 0 for a READY or
SENT one. -/
def Frame.startTile (f : Frame) (start : Option Nat) : Nat :=
  match start with
  | some t => t
  | none => if f.state = .held then f.nextUnsent else 0

/-- R138: a transfer starts. -/
def State.startTransfer (i : Fin 6) (f : Frame) (start : Option Nat) (credits : Nat) (s : State) : State :=
  let next := f.startTile start
  let t := s.putFrame i (some { f with state := .sending, nextUnsent := next })
  (t.putTransfer (some { slot := i, frame := f.number, credits := credits, onLine := none })).done
    (.grant credits next)

/-- R139: the credits in force after more are added, at most 64. -/
def addedCredits (held given : Nat) : Nat := min 64 (held + given)

/-- R137, R139: a grant for the slot that is SENDING adds credits when its start is CONTINUE or the tile to begin
next. -/
def State.addCredits (f : Frame) (start : Option Nat) (credits : Nat) (s : State) : State :=
  match s.transfer with
  | some t =>
    if start = none ∨ start = some (t.begins f.nextUnsent) then
      let sum := addedCredits t.credits credits
      (s.putTransfer (some { t with credits := sum })).done (.grant sum f.nextUnsent)
    else s.refuse .badValue
  | none => s.refuse .wrongState

/-- R137: a slot other than this one is SENDING. -/
def State.othersSending (s : State) (i : Fin 6) : Bool :=
  (List.finRange 6).any fun j =>
    decide (j ≠ i) && FrameStore.slotIs (fun p => decide (p = .sending)) (s.frameAt j)

/-- R137: the tests from the third on, for a frame that is there. -/
def State.grantNamed (i : Fin 6) (f : Frame) (start : Option Nat) (credits : Nat) (s : State) : State :=
  match f.state with
  | .ready | .held | .sent =>
    if s.othersSending i then s.refuse .busy else s.startTransfer i f start credits
  | .sending => if s.othersSending i then s.refuse .busy else s.addCredits f start credits
  | .armed | .exposing | .reading | .waiting | .correcting => s.refuse .wrongState

/-- R137: the credits of a grant. -/
def creditsOf (n : Nat) : Option Nat :=
  if 1 ≤ n ∧ n ≤ 32 then some n else none

/-- R137: TRANSFER_GRANT. -/
def State.transferGrant (body : List Byte) (s : State) : State :=
  match slotOf (numberAt body 0 1), startOf (numberAt body 5 1), creditsOf (numberAt body 6 1) with
  | some i, some start, some credits =>
    match s.namedFrame i (frameNumberOf body) with
    | some f => s.grantNamed i f start credits
    | none => s.refuse .stale
  | _, _, _ => s.refuse .badValue

/-- R143: a tile is on the line for the active transfer. -/
def State.tileOnLine (s : State) : Bool :=
  match s.transfer with
  | some t => t.onLine.isSome
  | none => false

/-- R143: a stop for the slot that is SENDING takes effect at once, or waits for the tile on the line. -/
def State.acceptStop (i : Fin 6) (release : Bool) (s : State) : State :=
  if s.tileOnLine then s.updLine (LineState.hold (.stop i release)) else s.stopEffect i release

/-- R143: TRANSFER_STOP; `known` says that the action code is this row's. -/
def State.transferStop (known release : Bool) (body : List Byte) (s : State) : State :=
  match slotOf (numberAt body 0 1) with
  | some i =>
    if known then
      match s.namedFrame i (frameNumberOf body) with
      | some f => if f.state = .sending then s.acceptStop i release else s.refuse .wrongState
      | none => s.refuse .stale
    else s.refuse .badValue
  | none => s.refuse .badValue

/-- TRANSFER_GRANT (R137). -/
def execTransferGrant (tag : Byte) (body : List Byte) (s : State) : Host.Outcome State Fault Refusal :=
  Event.run s (State.request .transferGrant tag body true (State.transferGrant body))

/-- TRANSFER_STOP_KEEP (R143). -/
def execTransferStopKeep (tag : Byte) (body : List Byte) (s : State) : Host.Outcome State Fault Refusal :=
  Event.run s (State.request .transferStop tag body (codeNotOf [2] 5 body)
    (State.transferStop (decide (numberAt body 5 1 = 1)) false body))

/-- TRANSFER_STOP_RELEASE (R143). -/
def execTransferStopRelease (tag : Byte) (body : List Byte) (s : State) : Host.Outcome State Fault Refusal :=
  Event.run s (State.request .transferStop tag body (codeNotOf [1] 5 body)
    (State.transferStop (decide (numberAt body 5 1 = 2)) true body))

end Sys2Proof.Machine
end

