-- ==== Sys2Proof/Machine/Travel.lean ====
section
/-! DEFINITION. The travel counter: decoding the wheel, position, countdown, speed and motion (chapter 2). -/

namespace Sys2Proof.Machine

/-- R22: the forward order of the phase pair, A then B: 00, 10, 11, 01 and back to 00. -/
def forwardOf : Bool × Bool → Bool × Bool
  | (false, false) => (true, false)
  | (true, false) => (true, true)
  | (true, true) => (false, true)
  | (false, true) => (false, false)

/-- What a pair of levels is against the phase reference (R22, R23). -/
inductive Transition where
  | unchanged | forward | reverse | invalid
deriving DecidableEq, Repr

/-- R22, R23: a change of one phase is a forward or a reverse count, of both at once an invalid transition. -/
def transitionOf (reference levels : Bool × Bool) : Transition :=
  if levels = reference then .unchanged
  else if levels = forwardOf reference then .forward
  else if reference = forwardOf levels then .reverse
  else .invalid

/-- R27, R28: an active countdown after a count; a forward count that brings it to 0 reloads it. -/
def countdownAfter (forward : Bool) (spacing c : Nat) : Nat :=
  if forward then (if c ≤ 1 then spacing else c - 1) else if c < spacing then c + 1 else c

/-- R27: the forward count brings an active countdown to 0. -/
def TravelState.reachesZero (v : TravelState) (forward : Bool) : Bool :=
  match v.countdown with
  | some c => forward && decide (c ≤ 1)
  | none => false

/-- R31: the period from the last valid edge to this one, at least 1 µs; without a last edge the period stays as it
was, absent. -/
def periodAfter (last period : Option Nat) (time : Nat) : Option Nat :=
  match last with
  | some t => some (max 1 (time - t))
  | none => period

/-- R22: a valid edge at `time` (µs), handed to each user of counts. -/
def TravelState.edge (forward : Bool) (a b : Bool) (time spacing stall : Nat) (v : TravelState) : TravelState :=
  { v with
    refA := a
    refB := b
    position := if forward then v.position + 1 else v.position - 1
    countdown := v.countdown.map (countdownAfter forward spacing)
    windowCount := v.windowCount + 1
    lastEdge := some time
    period := periodAfter v.lastEdge v.period time
    stallTimer := some stall
    direction := if forward then .forward else .reverse
    motion := v.motion.map fun n => n + 1 }

/-- R27: a countdown that reached 0 issues a DISTANCE trigger with the position just reached. -/
def State.distanceTrigger (due : Bool) (s : State) : State :=
  if due then (s.takeTrigger { source := .distance, position := s.travel.position }).2 else s

/-- R34: the motion counter reaching WAKE_DISTANCE in DORMANT wakes the part with reason MOTION. -/
def State.motionWake (s : State) : State :=
  match s.travel.motion with
  | some n =>
    if s.run.part = .dormant ∧ s.param .wakeDistance ≤ n then s.beginWaking .motion else s
  | none => s

/-- R22: a valid edge, and what it issues. -/
def State.countEdge (forward : Bool) (a b : Bool) (time : Nat) (s : State) : State :=
  let due := s.travel.reachesZero forward
  let t := s.updTravel (TravelState.edge forward a b time (s.param .triggerSpacing) (s.param .stallTime))
  (t.distanceTrigger due).motionWake

/-- R22, R23: a change of the phases. -/
def State.quadrature (a b : Bool) (time : Nat) (s : State) : State :=
  match transitionOf (s.travel.refA, s.travel.refB) (a, b) with
  | .unchanged => s
  | .forward => s.countEdge true a b time
  | .reverse => s.countEdge false a b time
  | .invalid => (s.raise .encoderError).updTravel fun v => { v with refA := a, refB := b }

/-- R30: the greatest speed recorded. -/
def heldSpeed (n : Nat) : Nat := min n 65535

/-- R30: the speed window expires: WINDOW from 4 edges on, else PERIOD when a period is known; it re-arms with
SPEED_WINDOW. -/
def TravelState.windowExpired (pitch window : Nat) (v : TravelState) : TravelState :=
  let w := { v with windowLength := window, windowCount := 0 }
  if 4 ≤ v.windowCount then
    { w with speed := heldSpeed (v.windowCount * pitch / v.windowLength), method := .window }
  else
    match v.period with
    | some p => { w with speed := heldSpeed (pitch * 1000 / p), method := .period }
    | none => w

/-- R32: the stall timer expires. -/
def TravelState.stalled (v : TravelState) : TravelState :=
  match v.stallTimer with
  | some _ =>
    { v with
      speed := 0
      method := .stalled
      direction := .stalled
      lastEdge := none
      period := none
      windowCount := 0
      stallTimer := none }
  | none => v

/-- R25: SET_POSITION replies with the position before. -/
def State.setPosition (body : List Byte) (s : State) : State :=
  (s.updTravel fun v => { v with position := BitVec.ofNat 32 (numberAt body 0 4) }).done
    (.position s.travel.position)

/-- SET_POSITION (R25). -/
def execSetPosition (tag : Byte) (body : List Byte) (s : State) : Host.Outcome State Fault Refusal :=
  Event.run s (State.request .setPosition tag body true (State.setPosition body))

/-- QUADRATURE_CHANGE (R22): the levels of A and B after the change, at `time` µs. -/
def execQuadratureChange (a b : Bool) (time : Nat) (s : State) : Host.Outcome State Fault Refusal :=
  Event.runPin s (fun p => { p with phaseA := a, phaseB := b }) (State.quadrature a b time)

/-- SPEED_WINDOW_EXPIRY (R30). -/
def execSpeedWindowExpiry (s : State) : Host.Outcome State Fault Refusal :=
  Event.run s fun s =>
    s.updTravel (TravelState.windowExpired (s.param .countPitch) (s.param .speedWindow))

/-- STALL_EXPIRY (R32). -/
def execStallExpiry (s : State) : Host.Outcome State Fault Refusal :=
  Event.run s fun s => s.updTravel TravelState.stalled

end Sys2Proof.Machine
end

