-- ==== Sys2Proof/Machine/Dispatch.lean ====
section
/-! DEFINITION. One arm for each command of the table: the command's effect on everything but the queue. -/

namespace Sys2Proof.Machine

def exec (i : Instr) (s : State) : Host.Outcome State Fault Refusal :=
  match i with
  | .powerOnReset => Sys2Proof.Machine.execPowerOnReset s
  | .brownout => Sys2Proof.Machine.execBrownout s
  | .resetInput => Sys2Proof.Machine.execResetInput s
  | .storeScanComplete => Sys2Proof.Machine.execStoreScanComplete s
  | .messageReceived bytes => Sys2Proof.Machine.execMessageReceived bytes s
  | .gapLimitExpiry => Sys2Proof.Machine.execGapLimitExpiry s
  | .unknownKind kind tag body => Sys2Proof.Machine.execUnknownKind kind tag body s
  | .queueMessageStart => Sys2Proof.Machine.execQueueMessageStart s
  | .messageSent => Sys2Proof.Machine.execMessageSent s
  | .tileStart => Sys2Proof.Machine.execTileStart s
  | .tileMessageSent => Sys2Proof.Machine.execTileMessageSent s
  | .identify tag body => Sys2Proof.Machine.execIdentify tag body s
  | .status tag body => Sys2Proof.Machine.execStatus tag body s
  | .getParam tag body => Sys2Proof.Machine.execGetParam tag body s
  | .setParam tag body => Sys2Proof.Machine.execSetParam tag body s
  | .clearConditions tag body => Sys2Proof.Machine.execClearConditions tag body s
  | .reset tag body => Sys2Proof.Machine.execReset tag body s
  | .runStart tag body => Sys2Proof.Machine.execRunStart tag body s
  | .runStop tag body => Sys2Proof.Machine.execRunStop tag body s
  | .trigger tag body => Sys2Proof.Machine.execTrigger tag body s
  | .single tag body => Sys2Proof.Machine.execSingle tag body s
  | .park tag body => Sys2Proof.Machine.execPark tag body s
  | .wake tag body => Sys2Proof.Machine.execWake tag body s
  | .sleep tag body => Sys2Proof.Machine.execSleep tag body s
  | .intervalExpiry => Sys2Proof.Machine.execIntervalExpiry s
  | .silenceExpiry => Sys2Proof.Machine.execSilenceExpiry s
  | .wakeSettleExpiry => Sys2Proof.Machine.execWakeSettleExpiry s
  | .setPosition tag body => Sys2Proof.Machine.execSetPosition tag body s
  | .quadratureChange a b time => Sys2Proof.Machine.execQuadratureChange a b time s
  | .speedWindowExpiry => Sys2Proof.Machine.execSpeedWindowExpiry s
  | .stallExpiry => Sys2Proof.Machine.execStallExpiry s
  | .segmentEnable tag body => Sys2Proof.Machine.execSegmentEnable tag body s
  | .segmentDisable tag body => Sys2Proof.Machine.execSegmentDisable tag body s
  | .segmentAdmit tag body => Sys2Proof.Machine.execSegmentAdmit tag body s
  | .segmentCeiling tag body => Sys2Proof.Machine.execSegmentCeiling tag body s
  | .segmentReport tag body => Sys2Proof.Machine.execSegmentReport tag body s
  | .strobeRequest => Sys2Proof.Machine.execStrobeRequest s
  | .exclRelease => Sys2Proof.Machine.execExclRelease s
  | .deferralTimerExpiry => Sys2Proof.Machine.execDeferralTimerExpiry s
  | .midStrobe senses => Sys2Proof.Machine.execMidStrobe senses s
  | .strobeEnd => Sys2Proof.Machine.execStrobeEnd s
  | .strobeGuardExpiry => Sys2Proof.Machine.execStrobeGuardExpiry s
  | .scanConversionEnd code celsius => Sys2Proof.Machine.execScanConversionEnd code celsius s
  | .strobeConversionEnd code => Sys2Proof.Machine.execStrobeConversionEnd code s
  | .monitorReport tag body => Sys2Proof.Machine.execMonitorReport tag body s
  | .sensorFrameStart => Sys2Proof.Machine.execSensorFrameStart s
  | .sensorLine samples => Sys2Proof.Machine.execSensorLine samples s
  | .sensorFrameEnd => Sys2Proof.Machine.execSensorFrameEnd s
  | .readoutLimitExpiry => Sys2Proof.Machine.execReadoutLimitExpiry s
  | .balanceHold tag body => Sys2Proof.Machine.execBalanceHold tag body s
  | .balanceRelease tag body => Sys2Proof.Machine.execBalanceRelease tag body s
  | .balanceRestart tag body => Sys2Proof.Machine.execBalanceRestart tag body s
  | .zoneReport tag body => Sys2Proof.Machine.execZoneReport tag body s
  | .releaseFrame tag body => Sys2Proof.Machine.execReleaseFrame tag body s
  | .slotReport tag body => Sys2Proof.Machine.execSlotReport tag body s
  | .tileCompletion => Sys2Proof.Machine.execTileCompletion s
  | .transferGrant tag body => Sys2Proof.Machine.execTransferGrant tag body s
  | .transferStopKeep tag body => Sys2Proof.Machine.execTransferStopKeep tag body s
  | .transferStopRelease tag body => Sys2Proof.Machine.execTransferStopRelease tag body s
  | .loadProfileById tag body => Sys2Proof.Machine.execLoadProfileById tag body s
  | .loadProfileByBore tag body => Sys2Proof.Machine.execLoadProfileByBore tag body s
  | .loadEnd decayed => Sys2Proof.Machine.execLoadEnd decayed s
  | .storeStage tag body => Sys2Proof.Machine.execStoreStage tag body s
  | .storePermit tag body => Sys2Proof.Machine.execStorePermit tag body s
  | .storeRevoke tag body => Sys2Proof.Machine.execStoreRevoke tag body s
  | .storeLockdown tag body => Sys2Proof.Machine.execStoreLockdown tag body s
  | .storeCommit tag body => Sys2Proof.Machine.execStoreCommit tag body s
  | .storeErase tag body => Sys2Proof.Machine.execStoreErase tag body s
  | .storeProtect tag body => Sys2Proof.Machine.execStoreProtect tag body s
  | .storeRead tag body => Sys2Proof.Machine.execStoreRead tag body s
  | .storeReadEnd => Sys2Proof.Machine.execStoreReadEnd s
  | .storeDirectory tag body => Sys2Proof.Machine.execStoreDirectory tag body s
  | .erasingEnd unerased => Sys2Proof.Machine.execErasingEnd unerased s
  | .programmingEnd wrong => Sys2Proof.Machine.execProgrammingEnd wrong s
  | .verifyingEnd => Sys2Proof.Machine.execVerifyingEnd s
  | .suspensionPoint => Sys2Proof.Machine.execSuspensionPoint s
  | .wprotAsserted => Sys2Proof.Machine.execWprotAsserted s
  | .exclAsserted => Sys2Proof.Machine.execExclAsserted s
  | .wprotReleased => Sys2Proof.Machine.execWprotReleased s
  | .syncByteReceived => Sys2Proof.Machine.execSyncByteReceived s

end Sys2Proof.Machine
end

