-- ==== Sys2Proof/WellFormed.lean ====
section
/-! DEFINITION. Which terms of `Instr` are commands the part can be given. -/

namespace Sys2Proof

/-- Offsets inside an area of 4,096 bytes (R147). -/
def cellsInArea (cells : List Host.Cell) : Bool :=
  cells.all fun c => decide (c.1 < 4096)

/-- A command that can occur: operands in the ranges the manual gives the thing they stand for. -/
def Instr.wellFormed : Instr → Bool
  | .messageReceived bytes => !bytes.isEmpty
  | .unknownKind kind _ body => !Machine.isRequestCode kind && Machine.bodyArrives body
  | .segmentEnable _ body => Machine.codeNotOf [2, 3, 4] 1 body && Machine.bodyArrives body
  | .segmentDisable _ body => Machine.codeNotOf [1, 3, 4] 1 body && Machine.bodyArrives body
  | .segmentAdmit _ body => Machine.codeNotOf [1, 2, 4] 1 body && Machine.bodyArrives body
  | .segmentCeiling _ body => Machine.codeNotOf [1, 2, 3] 1 body && Machine.bodyArrives body
  | .transferStopKeep _ body => Machine.codeNotOf [2] 5 body && Machine.bodyArrives body
  | .transferStopRelease _ body => Machine.codeNotOf [1] 5 body && Machine.bodyArrives body
  | .loadProfileById _ body => Machine.codeNotOf [2] 0 body && Machine.bodyArrives body
  | .loadProfileByBore _ body => Machine.codeNotOf [1] 0 body && Machine.bodyArrives body
  | .identify _ body | .status _ body | .getParam _ body | .setParam _ body | .clearConditions _ body | .reset _ body
  | .runStart _ body | .runStop _ body | .trigger _ body | .single _ body | .park _ body | .wake _ body
  | .sleep _ body | .setPosition _ body | .segmentReport _ body | .monitorReport _ body | .balanceHold _ body
  | .balanceRelease _ body | .balanceRestart _ body | .zoneReport _ body | .releaseFrame _ body | .slotReport _ body
  | .transferGrant _ body | .storeStage _ body | .storePermit _ body | .storeRevoke _ body | .storeLockdown _ body
  | .storeCommit _ body | .storeErase _ body | .storeProtect _ body | .storeRead _ body
  | .storeDirectory _ body => Machine.bodyArrives body
  | .midStrobe senses => decide (0 < senses.currentPerLevel) && decide (0 < senses.supply)
  | .scanConversionEnd code celsius => decide (code < 4096) && decide (-40 ≤ celsius) && decide (celsius ≤ 150)
  | .strobeConversionEnd code => decide (code < 4096)
  | .loadEnd cells => cellsInArea cells
  | .erasingEnd cells => cellsInArea cells
  | .programmingEnd cells => cellsInArea cells
  | .powerOnReset | .brownout | .resetInput | .storeScanComplete | .gapLimitExpiry | .queueMessageStart
  | .messageSent | .tileStart | .tileMessageSent | .intervalExpiry | .silenceExpiry | .wakeSettleExpiry
  | .quadratureChange _ _ _ | .speedWindowExpiry | .stallExpiry | .strobeRequest | .exclRelease
  | .deferralTimerExpiry | .strobeEnd | .strobeGuardExpiry | .sensorFrameStart | .sensorLine _ | .sensorFrameEnd
  | .readoutLimitExpiry | .tileCompletion | .storeReadEnd | .verifyingEnd | .suspensionPoint | .wprotAsserted
  | .exclAsserted | .wprotReleased | .syncByteReceived => true

end Sys2Proof
end

