-- ==== Sys2Proof/Safety.lean ====
section
/-! DEFINITION. What the statements are written with: when a request is taken and what its reply leaves, which message
is which request, and the invariants that every step keeps. -/

namespace Sys2Proof.Machine

/-! ## A request taken and answered (R163, R164, R175) -/

/-- The part has power and stands between two events. -/
def State.between (s : State) : Prop :=
  s.powered = true ∧ s.line.staged = []

/-- R163: the decoder is free and this message is the oldest of the inbound buffer; with an empty buffer it is taken as
it comes (log 2). R174: the body fits an inbound LENGTH of 300. -/
def State.takes (kind tag : Byte) (body : List Byte) (s : State) : Prop :=
  s.between ∧ s.line.inHand = none ∧ body.length ≤ 298 ∧
    (s.line.inbound = [] ∨ s.line.inbound.head? = some { kind := kind, tag := tag, body := body })

/-- R164: a message taken and answered in one event: with fewer than sixteen messages queued the reply is placed and
the decoder is free; otherwise the reply waits, and the decoder with it. -/
def LineState.withMessage (kind tag : Byte) (m : OutMessage) (l : LineState) : LineState :=
  if l.outbound.length < 16 then
    { l with inbound := l.inbound.tail, inHand := none, outbound := l.outbound ++ [m] }
  else
    { l with inbound := l.inbound.tail, inHand := some { kind := kind, tag := tag, wait := .place m } }

/-- R175: the reply has the request's kind plus 0x80 and the request's tag. -/
def State.withReply (kind tag : Byte) (body : ReplyBody) (s : State) : State :=
  { s with line := s.line.withMessage kind tag (.reply (kind + 0x80) tag body) }

/-- The request answered DONE, and nothing else changed. -/
def State.withDone (k : RequestKind) (tag : Byte) (r : Result) (s : State) : State :=
  s.withReply k.byte tag (.done r)

/-- The request answered TAKEN, and nothing else changed. -/
def State.withTaken (k : RequestKind) (tag : Byte) (r : Result) (s : State) : State :=
  s.withReply k.byte tag (.taken r)

/-- The request answered REFUSED, and nothing else changed. -/
def State.withRefusal (k : RequestKind) (tag : Byte) (r : Reason) (s : State) : State :=
  s.withReply k.byte tag (.refused r)

/-- R1: the part states in which every request is handled by its own rule. -/
def PartState.handles : PartState → Bool
  | .ready | .running | .stopping | .parked => true
  | .startup | .dormant | .waking => false

/-- A request is taken in a part state that handles it. -/
def State.handles (k : RequestKind) (tag : Byte) (body : List Byte) (s : State) : Prop :=
  s.takes k.byte tag body ∧ s.run.part.handles = true

/-- R173: a number of two bytes. -/
def le2 (b0 b1 : Byte) : Nat := b0.toNat + 256 * b1.toNat

/-- R173: a number of four bytes. -/
def le4 (b0 b1 b2 b3 : Byte) : Nat := b0.toNat + 256 * b1.toNat + 65536 * b2.toNat + 16777216 * b3.toNat

/-- The message a request row stands for: its kind, its tag and its body. -/
def requestOf : Instr → Option (RequestKind × Byte × List Byte)
  | .identify t b => some (.identify, t, b)
  | .status t b => some (.status, t, b)
  | .getParam t b => some (.getParam, t, b)
  | .setParam t b => some (.setParam, t, b)
  | .clearConditions t b => some (.clearConditions, t, b)
  | .reset t b => some (.reset, t, b)
  | .runStart t b => some (.runStart, t, b)
  | .runStop t b => some (.runStop, t, b)
  | .trigger t b => some (.trigger, t, b)
  | .single t b => some (.single, t, b)
  | .park t b => some (.park, t, b)
  | .wake t b => some (.wake, t, b)
  | .sleep t b => some (.sleep, t, b)
  | .setPosition t b => some (.setPosition, t, b)
  | .segmentEnable t b => some (.segmentSet, t, b)
  | .segmentDisable t b => some (.segmentSet, t, b)
  | .segmentAdmit t b => some (.segmentSet, t, b)
  | .segmentCeiling t b => some (.segmentSet, t, b)
  | .segmentReport t b => some (.segmentReport, t, b)
  | .monitorReport t b => some (.monitorReport, t, b)
  | .balanceHold t b => some (.balanceHold, t, b)
  | .balanceRelease t b => some (.balanceRelease, t, b)
  | .balanceRestart t b => some (.balanceRestart, t, b)
  | .zoneReport t b => some (.zoneReport, t, b)
  | .releaseFrame t b => some (.releaseFrame, t, b)
  | .slotReport t b => some (.slotReport, t, b)
  | .transferGrant t b => some (.transferGrant, t, b)
  | .transferStopKeep t b => some (.transferStop, t, b)
  | .transferStopRelease t b => some (.transferStop, t, b)
  | .loadProfileById t b => some (.loadProfile, t, b)
  | .loadProfileByBore t b => some (.loadProfile, t, b)
  | .storeStage t b => some (.storeStage, t, b)
  | .storePermit t b => some (.storePermit, t, b)
  | .storeRevoke t b => some (.storeRevoke, t, b)
  | .storeLockdown t b => some (.storeLockdown, t, b)
  | .storeCommit t b => some (.storeCommit, t, b)
  | .storeErase t b => some (.storeErase, t, b)
  | .storeProtect t b => some (.storeProtect, t, b)
  | .storeRead t b => some (.storeRead, t, b)
  | .storeDirectory t b => some (.storeDirectory, t, b)
  | _ => none

/-- R1: the requests that STARTUP, DORMANT and WAKING answer. -/
def screened (p : PartState) (k : RequestKind) : Prop :=
  match p with
  | .startup => k ≠ .identify ∧ k ≠ .status
  | .dormant => k ≠ .wake ∧ k ≠ .identify ∧ k ≠ .status
  | .waking => k ≠ .identify ∧ k ≠ .status
  | .ready | .running | .stopping | .parked => False

/-- What the end of an event does to the line: its notices are placed (R164). -/
def State.ended (s : State) : State :=
  { s with line := s.line.flush }

/-! ## Triggers and allocation (R8, R9, R108 to R110) -/

/-- The sensor path is idle: no slot is ARMED, EXPOSING or READING (section 1.1). -/
def State.pathIdle (s : State) : Prop :=
  ∀ (i : Fin 6) (f : Frame), s.frames.slots.get i = some f → f.state.onSensorPath = false

/-- No slot but `i` is on the sensor path. -/
def State.aloneOnPath (i : Fin 6) (s : State) : Prop :=
  ∀ (j : Fin 6) (g : Frame), j ≠ i → s.frames.slots.get j = some g → g.state.onSensorPath = false

/-- No slot is ARMED. -/
def State.noneArmed (s : State) : Prop :=
  ∀ (i : Fin 6) (f : Frame), s.frames.slots.get i = some f → f.state ≠ .armed

/-- R8: the slots on the sensor path that carry a run's number. -/
def State.inFlight (s : State) (number : Nat) : Nat :=
  s.frames.slots.items.countP fun o => (o.map fun f => f.state.onSensorPath && decide (f.run = some number)).getD false

/-- R8: a trigger is taken: RUNNING, and the requested count leaves room. -/
def State.takesTriggers (s : State) : Prop :=
  s.run.part = .running ∧
    ∃ c, s.run.current = some c ∧
      (c.requested = 0 ∨
        c.captured.toNat + s.inFlight c.number + (if s.run.pendingTrigger.isSome then 1 else 0) < c.requested)

/-- R109: the lowest FREE slot, while frame numbers last (R110). -/
def State.lowestFree (i : Fin 6) (s : State) : Prop :=
  s.frames.exhausted = false ∧ s.frames.slots.get i = none ∧ ∀ j : Fin 6, j < i → s.frames.slots.get j ≠ none

/-- R109: under RECLAIM with no slot FREE: of the slots READY, SENT and HELD, the one with the lowest frame number. -/
def State.oldestDelivered (i : Fin 6) (f : Frame) (s : State) : Prop :=
  s.frames.exhausted = false ∧ s.line.params.value .slotPolicy = 2 ∧
    (∀ j, s.frames.slots.get j ≠ none) ∧ s.frames.slots.get i = some f ∧
    (f.state = .ready ∨ f.state = .held ∨ f.state = .sent) ∧
    ∀ (j : Fin 6) (g : Frame), j ≠ i → s.frames.slots.get j = some g →
      (g.state = .ready ∨ g.state = .held ∨ g.state = .sent) → f.number < g.number

/-- R109, R110: no slot can be had. -/
def State.noSlot (s : State) : Prop :=
  s.frames.exhausted = true ∨
    (∀ j, s.frames.slots.get j ≠ none) ∧
      (s.line.params.value .slotPolicy = 1 ∨
        s.line.params.value .slotPolicy = 2 ∧ ∀ (j : Fin 6) (g : Frame), s.frames.slots.get j = some g →
          g.state ≠ .ready ∧ g.state ≠ .held ∧ g.state ≠ .sent)

/-- R108: slot `i` filled with a new frame under the CURRENT bank and handed to the ring driver. -/
def State.armed (i : Fin 6) (run : Option Nat) (source : Source) (position : Word32) (s : State) : State :=
  let which : BankId := if s.engine.bankB.state = .current then .b else .a
  let k := match which with | .a => s.engine.bankA | .b => s.engine.bankB
  let profile := k.profileId.getD 0
  let f : Frame :=
    { state := .armed, number := s.frames.nextFrame, run := run, source := source, position := position,
      bank := which, profileId := profile,
      flags :=
        { cut := false, saturated := false, speedLimited := false, segmentFaulted := false, droop := false,
          deferred := false, partialPicture := false, unsettled := false, defaultProfile := decide (profile = 0) },
      strobe := none, stats := none, gains := none, tilesDone := 0, nextUnsent := 0, abandon := false, raw := [],
      tiles := [] }
  let more : Bank := { k with references := k.references + 1 }
  { s with
    frames := { s.frames with
      slots := s.frames.slots.set i (some f)
      nextFrame := if s.frames.nextFrame < 4294967295 then s.frames.nextFrame + 1 else s.frames.nextFrame
      exhausted := s.frames.exhausted || !decide (s.frames.nextFrame < 4294967295) }
    engine :=
      match which with
      | .a => { s.engine with bankA := more }
      | .b => { s.engine with bankB := more }
    ring := { s.ring with request := some i } }

/-- R6: the open run counts one more skipped. -/
def State.skipsOne (s : State) : State :=
  { s with run := { s.run with current := s.run.current.map fun c => { c with skipped := c.skipped + 1 } } }

/-- R109: FRAME_WITHDRAWN queued, and FRAME_RECLAIMED raised. -/
def State.withdrawn (i : Fin 6) (f : Frame) (s : State) : State :=
  let told := { s.line with staged := s.line.staged ++ [.frameWithdrawn i f.number f.state f.run] }
  { s with line := LineState.raise .frameReclaimed told }

/-- R9, R108, R109: a trigger with this source and position is served for the open run: the slot it gets, if any, and the
state it leaves. -/
inductive Served (source : Source) (position : Word32) (s : State) : Option (Fin 6) → State → Prop
  | free (i : Fin 6) (slot : s.lowestFree i) :
      Served source position s (some i) (s.armed i (s.run.current.map RunRecord.number) source position)
  | reclaimed (i : Fin 6) (f : Frame) (slot : s.oldestDelivered i f) :
      Served source position s (some i)
        ((s.withdrawn i f).armed i (s.run.current.map RunRecord.number) source position)
  | starved (full : s.noSlot) :
      Served source position s none { s.skipsOne with line := s.line.raise .slotStarved }

/-- R8: what becomes of a trigger with this source and position, and the state it leaves. -/
inductive Triggered (source : Source) (position : Word32) (s : State) : TriggerOutcome → State → Prop
  | ignored (h : ¬ s.takesTriggers) : Triggered source position s .ignored s
  | pending (h : s.takesTriggers) (busy : ¬ s.pathIdle) (none : s.run.pendingTrigger = none) :
      Triggered source position s .pending
        { s with run := { s.run with pendingTrigger := some { source := source, position := position } } }
  | overlap (h : s.takesTriggers) (busy : ¬ s.pathIdle) (held : s.run.pendingTrigger ≠ none) :
      Triggered source position s .overlap
        { s.skipsOne with line := s.line.raise .captureOverlap }
  | served (i : Fin 6) (t : State) (h : s.takesTriggers) (idle : s.pathIdle)
      (got : Served source position s (some i) t) : Triggered source position s (.served i s.frames.nextFrame) t
  | starved (t : State) (h : s.takesTriggers) (idle : s.pathIdle) (got : Served source position s none t) :
      Triggered source position s .starved t

/-- R10: the pending trigger, if one is held, is served with the source and the position it kept. -/
inductive PendingServed (s : State) : State → Prop
  | absent (h : s.run.pendingTrigger = none) : PendingServed s s
  | served (x : Trigger) (o : Option (Fin 6)) (t : State) (h : s.run.pendingTrigger = some x)
      (got : Served x.source x.position { s with run := { s.run with pendingTrigger := none } } o t) :
      PendingServed s t

/-- R15, R6: the open run's record at its end, with one more skipped for a pending trigger. -/
def State.endedRecord (reason : EndReason) (c : RunRecord) (s : State) : RunRecord :=
  { c with
    endPosition := some s.travel.position
    endReason := some reason
    skipped := if s.run.pendingTrigger.isSome then c.skipped + 1 else c.skipped }

/-- R15: a run end with a capture past its strobe start on the sensor path: the part is STOPPING. -/
def State.stopping (reason : EndReason) (c : RunRecord) (s : State) : State :=
  { s with
    run := { s.run with
      part := .stopping
      current := some (s.endedRecord reason c)
      intervalTimer := none
      pendingTrigger := none }
    travel := { s.travel with countdown := none } }

/-- R15, R16: a run end with the sensor path idle: the run closes at once, in the part state its reason gives, and
RUN_ENDED is queued. -/
def State.closed (reason : EndReason) (part : PartState) (c : RunRecord) (s : State) : State :=
  { s with
    line := { s.line with staged := s.line.staged ++ [.runEnded (s.endedRecord reason c)] }
    run := { s.run with
      part := part
      current := none
      last := some (s.endedRecord reason c)
      intervalTimer := none
      pendingTrigger := none }
    travel := { s.travel with countdown := none } }

/-! ## The line, the resets and the wheel -/

/-- R140: the tile sender waits for the line. -/
def tileSenderWaits (s : State) : Prop :=
  ∃ (t : Transfer) (f : Frame), s.transfer = some t ∧ s.frames.slots.get t.slot = some f ∧
    0 < t.credits ∧ t.onLine = none ∧ f.nextUnsent ≤ 191

/-- What both kinds of reset leave (R2, R35, R38, R54, R72, R87, R88, R121, R135, R136, R160, R171); the four values
that only a soft reset keeps are the arguments. -/
def resetState (number : Nat) (position : Word32) (nextFrame : Nat) (lockdown : Bool) (s t : State) : Prop :=
  t.pending = s.pending ∧ t.pins = s.pins ∧ t.transfer = none ∧
  t.line.receiver = .hunting ∧ t.line.inbound = [] ∧ t.line.inHand = none ∧ t.line.outbound = [] ∧
  t.line.onLine = none ∧ t.line.lastParty = .queue ∧ t.line.conditions = 0 ∧ t.line.staged = [] ∧
  t.line.params = State.reset.line.params ∧
  t.run.part = .startup ∧ t.run.runNumber = number ∧ t.run.current = none ∧ t.run.last = none ∧
  t.run.pendingTrigger = none ∧ t.run.intervalTimer = none ∧ t.run.silenceTimer = some 30 ∧ t.run.wakeTimer = none ∧
  t.travel.refA = s.pins.phaseA ∧ t.travel.refB = s.pins.phaseB ∧ t.travel.position = position ∧
  t.travel.countdown = none ∧ t.travel.windowLength = 100 ∧ t.travel.windowCount = 0 ∧ t.travel.lastEdge = none ∧
  t.travel.period = none ∧ t.travel.stallTimer = none ∧ t.travel.speed = 0 ∧ t.travel.method = .stalled ∧
  t.travel.direction = .stalled ∧ t.travel.motion = none ∧
  (∀ i : Fin 12, t.ring.segments.get i =
    { state := .enabled, health := .untested, hostCeiling := 255, lastLevel := 0, saturatedLast := false,
      weakCount := 0, faultCount := 0, strobeCount := 0 }) ∧
  t.ring.lockout = { thermal := false, supply := false, guard := false } ∧ t.ring.deferral = none ∧
  t.ring.strobe = none ∧ t.ring.guard = none ∧ (∀ i : Fin 12, t.ring.drives.get i = 0) ∧ t.ring.lit = false ∧
  t.ring.expose = false ∧
  t.monitor.conversion = some { channel := .supply, kind := .scan, resolution := 12 } ∧
  t.monitor.scanPosition = .supply ∧ (∀ c : Fin 6, t.monitor.rest.get c = none) ∧ t.monitor.lastStrobe = none ∧
  t.monitor.supplyStep = 0 ∧ t.monitor.droopFree = 0 ∧ t.monitor.lowStreak = 0 ∧
  (∀ g : Fin 3, t.monitor.thermalStep.get g = 0) ∧
  (∀ i : Fin 12, t.balance.energies.get i = 192000) ∧ t.balance.zoneMap = none ∧ t.balance.verdicts = none ∧
  t.balance.state = .cold ∧ t.balance.settle = 0 ∧ t.balance.stale = none ∧
  (∀ i : Fin 6, t.frames.slots.get i = none) ∧ t.frames.queue = [] ∧ t.frames.nextFrame = nextFrame ∧
  t.frames.port = .idle ∧ t.frames.readoutLimit = none ∧
  t.engine.bankA = { state := .current, profileId := some 0, references := 0, contents := some Profile.builtin } ∧
  t.engine.bankB = { state := .empty, profileId := none, references := 0, contents := none } ∧ t.engine.hand = none ∧
  t.store.operation = none ∧ t.store.load = none ∧ t.store.serving = none ∧ t.store.waiting = [] ∧
  (∀ a, t.store.staging.read a = 255) ∧ t.store.permit = false ∧ t.store.lockdown = lockdown ∧
  t.store.lastResult = none ∧ t.store.scanning = true ∧
  (s.store.operation = none → t.store.areas = s.store.areas ∧ t.store.control = s.store.control)

/-- R5, steps 1 to 5: what an accepted RUN_START makes of the part before its reply. -/
def runOpened (mode : RunMode) (requested : Nat) (s : State) : State :=
  let number := if s.run.runNumber < 4294967295 then s.run.runNumber + 1 else 1
  { s with
    run := { s.run with
      part := .running
      runNumber := number
      current := some
        { number := number, mode := mode, requested := requested, captured := 0, skipped := 0,
          startPosition := s.travel.position, endPosition := none, endReason := none }
      intervalTimer := if mode = .interval then some (s.line.params.value .interval) else s.run.intervalTimer
      silenceTimer :=
        if s.line.params.value .silenceTimeout = 0 then none else some (s.line.params.value .silenceTimeout) }
    travel := { s.travel with
      countdown := if mode = .distance then some (s.line.params.value .triggerSpacing) else s.travel.countdown } }

/-- R22: the forward order of the pair A, B. -/
def isForward (before after : Bool × Bool) : Prop :=
  (before, after) = ((false, false), (true, false)) ∨ (before, after) = ((true, false), (true, true)) ∨
    (before, after) = ((true, true), (false, true)) ∨ (before, after) = ((false, true), (false, false))

/-- R22, R24, R27, R28, R30 to R34: what a valid edge does to the travel counter. -/
def edgeTaken (forward a b : Bool) (time : Nat) (s : State) : State :=
  let spacing := s.line.params.value .triggerSpacing
  { s with
    pins := { s.pins with phaseA := a, phaseB := b }
    travel := { s.travel with
      refA := a
      refB := b
      position := if forward then s.travel.position + 1 else s.travel.position - 1
      countdown := s.travel.countdown.map fun c =>
        if forward then (if c ≤ 1 then spacing else c - 1) else (if c < spacing then c + 1 else c)
      windowCount := s.travel.windowCount + 1
      lastEdge := some time
      period :=
        match s.travel.lastEdge with
        | some before => some (max 1 (time - before))
        | none => s.travel.period
      stallTimer := some (s.line.params.value .stallTime)
      direction := if forward then .forward else .reverse
      motion := s.travel.motion.map fun n => n + 1 } }

/-! ## The ring and the converter (chapters 3 to 5) -/

/-- R47: SEGMENT_SET accepted: the record is replaced and reported with its effective ceiling (R37). -/
def State.segmentAnswered (tag : Byte) (i : Fin 12) (g : Segment) (s : State) : State :=
  State.withDone .segmentSet tag
    (.segment
      { segment := g
        effectiveCeiling :=
          if g.state = .enabled then
            min g.hostCeiling (groupCeiling (s.monitor.thermalStep.get ⟨i.val / 4, by omega⟩))
          else 0 })
    { s with ring := { s.ring with segments := s.ring.segments.set i g } }

/-- R61: the blur limit at a strobe start. -/
def State.blurNow (s : State) : Nat :=
  if s.travel.speed = 0 then s.line.params.value .strobeMax
  else s.line.params.value .blurBudget * 1000 / s.travel.speed

/-- R61: D. -/
def State.durationNow (s : State) : Nat :=
  max 20 (min (s.line.params.value .strobeMax) s.blurNow)

/-- R39: the level of a segment after clipping, at a strobe start with this D. -/
def State.clippedAt (d : Nat) (i : Fin 12) (s : State) : Nat :=
  let g := s.ring.segments.get i
  if g.state = .enabled then
    min (s.balance.energies.get i / d)
      (min 255 (min g.hostCeiling (groupCeiling (s.monitor.thermalStep.get ⟨i.val / 4, by omega⟩))))
  else 0

/-- R40: the sum of the twelve clipped levels. -/
def State.clippedSum (d : Nat) (s : State) : Nat :=
  ((List.finRange 12).map fun i => s.clippedAt d i).sum

/-- R78: the ring budget. -/
def State.budgetNow (s : State) : Nat := 3060 - 384 * s.monitor.supplyStep

/-- R40: the level of a segment in a strobe that starts now. -/
def State.levelAt (d : Nat) (i : Fin 12) (s : State) : Nat :=
  if s.clippedSum d ≤ s.budgetNow then s.clippedAt d i else s.clippedAt d i * s.budgetNow / s.clippedSum d

/-- R41: the segment is saturated-last: clipped under R39 or scaled under R40. -/
def State.cutAt (d : Nat) (i : Fin 12) (s : State) : Bool :=
  decide ((s.ring.segments.get i).state = .enabled) &&
    (decide (s.clippedAt d i < s.balance.energies.get i / d) ||
      decide (s.budgetNow < s.clippedSum d) && decide (0 < s.clippedAt d i))

/-- R62, R63: a capture strobe starts for slot `i`, which holds `f`. -/
def State.strobed (i : Fin 6) (f : Frame) (s : State) : State :=
  let d := s.durationNow
  let levels : Table 12 Nat := Table.ofFn fun k => s.levelAt d k
  let saturated := (List.finRange 12).any fun k => s.cutAt d k
  let limited := decide (s.blurNow < s.line.params.value .strobeMax)
  { s with
    ring := { s.ring with
      segments := Table.ofFn fun k =>
        { s.ring.segments.get k with
          lastLevel := s.levelAt d k
          saturatedLast := s.cutAt d k
          strobeCount :=
            if 0 < s.levelAt d k then (s.ring.segments.get k).strobeCount + 1
            else (s.ring.segments.get k).strobeCount }
      deferral := none
      strobe := some { target := .capture i, duration := d, levels := levels, midPassed := false }
      guard := some (min 5000 (d + d / 4))
      drives := levels
      lit := true
      expose := true }
    frames := { s.frames with
      slots := s.frames.slots.set i (some { f with
        state := .exposing
        strobe := some { speed := s.travel.speed, duration := d, levels := levels }
        flags := { f.flags with
          saturated := f.flags.saturated || saturated
          speedLimited := f.flags.speedLimited || limited && saturated
          segmentFaulted := f.flags.segmentFaulted ||
            (List.finRange 12).any fun k => decide ((s.ring.segments.get k).state = .faulted)
          unsettled := f.flags.unsettled || decide (s.balance.state ≠ .settled) } }) }
    line := if (saturated && limited) = true then s.line.raise .speedLimit else s.line }

/-- R126, R127: a bank with one reference fewer. -/
def Bank.less (k : Bank) : Bank :=
  if k.state = .retiring ∧ k.references ≤ 1 then
    { state := .empty, profileId := Option.none, references := 0, contents := Option.none }
  else { k with references := k.references - 1 }

/-- R127: the reference of a slot on its bank ends. -/
def EngineState.released (which : BankId) (e : EngineState) : EngineState :=
  match which with
  | .a => { e with bankA := e.bankA.less }
  | .b => { e with bankB := e.bankB.less }

/-- R6: a run counts one more skipped, when the number is the open run's. -/
def RunState.skips (number : Option Nat) (r : RunState) : RunState :=
  { r with current := r.current.map fun c =>
      if number = some c.number then { c with skipped := c.skipped + 1 } else c }

/-- R57, R115: slot `i`, which holds `f`, is freed from the sensor path: its reference ends and its run counts it
skipped. -/
def State.freed (i : Fin 6) (f : Frame) (s : State) : State :=
  { s with
    frames := { s.frames with slots := s.frames.slots.set i none }
    engine := s.engine.released f.bank
    run := s.run.skips f.run }

/-- R16: with the sensor path idle, a run in STOPPING closes: its record becomes the last one, RUN_ENDED is queued, and
the part is PARKED after an end by PARK or silence and READY after any other. (STOPPING has an open run; without one the
part would be READY.) -/
def State.runClosed (s : State) : State :=
  if s.run.part = .stopping then
    match s.run.current with
    | some c =>
      { s with
        line := { s.line with staged := s.line.staged ++ [.runEnded c] }
        run := { s.run with
          part := if c.endReason = some .parked ∨ c.endReason = some .silence then .parked else .ready
          current := none
          last := some c } }
    | none => { s with run := { s.run with part := .ready } }
  else s

/-- R126, R96: the LOADED bank becomes CURRENT; the other one retires, and is EMPTY without references; the balance unit
enters COLD with the new start levels, and its stale frame becomes absent. (A LOADED bank has contents: log 21.) -/
def State.swapped (which : BankId) (s : State) : State :=
  let k := s.engine.bank which
  let old := s.engine.bank which.other
  let retired : Bank :=
    if old.references = 0 then { state := .empty, profileId := none, references := 0, contents := none }
    else { old with state := .retiring }
  { s with
    engine := (s.engine.setBank which { k with state := .current }).setBank which.other retired
    balance := { s.balance with
      state := .cold
      settle := 0
      energies :=
        (k.contents.getD Profile.builtin).startLevels.map fun level => level * s.line.params.value .strobeMax
      stale := none } }

/-- R126: with the sensor path idle, a swap takes place if the bank that is not CURRENT is LOADED. -/
def State.bankSwapped (s : State) : State :=
  let spare : BankId := if s.engine.bankB.state = .current then .a else .b
  if (s.engine.bank spare).state = .loaded then s.swapped spare else s

/-- R16, R126: what follows when the sensor path becomes idle, but for the pending trigger. -/
def State.pathSettled (s : State) : State :=
  s.runClosed.bankSwapped

/-- R57: the ARMED slot `i`, which holds `f`, is abandoned: a deferral is discarded and the slot is freed. -/
def State.abandoned (i : Fin 6) (f : Frame) (s : State) : State :=
  State.freed i f { s with ring := { s.ring with deferral := none } }

/-- R15, R16, R57, R126: a run ends with slot `i` ARMED and alone on the sensor path: the slot is abandoned and counted
skipped if it is the run's own, a LOADED bank is swapped in, and the run closes at once. -/
def State.closedFreeing (reason : EndReason) (part : PartState) (c : RunRecord) (i : Fin 6) (f : Frame)
    (s : State) : State :=
  State.closed reason part (if f.run = some c.number then { c with skipped := c.skipped + 1 } else c)
    (s.abandoned i f).bankSwapped

/-- R6, R14: the run of a correct readout counts it captured; in RUNNING, reaching a requested count that is not 0 is a
run end, and with the sensor path idle the run closes at once. -/
def State.captureCounted (f : Frame) (s : State) : State :=
  match s.run.current with
  | some c =>
    if f.run = some c.number then
      let more : RunRecord := { c with captured := c.captured + 1 }
      if s.run.part = .running ∧ c.requested ≠ 0 ∧ c.requested ≤ more.captured.toNat then
        s.closed .countReached .ready more
      else { s with run := { s.run with current := some more } }
    else s
  | none => s

/-- R3: the self-test has ended or was skipped: the part is READY, and STATE_CHANGED is queued. -/
def State.startedUp (s : State) : State :=
  { s with
    run := { s.run with part := .ready, selfTest := none }
    line := { s.line with staged := s.line.staged ++ [.stateChanged .ready .startup] } }

/-- R66, R67: the ring dark, with no strobe record and the guard disarmed. -/
def State.darkened (s : State) : State :=
  { s with ring := { s.ring with
      strobe := none, guard := none, drives := Table.fill 12 0, lit := false, expose := false } }

/-- R66, R67, R111: slot `i`, which held `f`, is READING, with its statistics cleared and the readout limit started. -/
def State.reading (i : Fin 6) (f : Frame) (cut : Bool) (s : State) : State :=
  { s with frames := { s.frames with
      slots := s.frames.slots.set i (some { f with
        state := .reading
        stats := some (Table.fill 48 { samples := 0, sum := 0, clipped := 0 })
        flags := { f.flags with cut := f.flags.cut || cut } })
      port := .waiting
      readoutLimit := some 250 } }

/-- R43: the outcome of the comparators for segment `k` at this level; below 32 there is none. -/
def sampleOutcome (q : StrobeSenses) (check short level : Nat) (k : Fin 12) : Option Sample :=
  if level < 32 then none
  else if 16 * q.current.get k < q.currentPerLevel * level then some .openString
  else if 16 * q.string.get k < short * q.supply then some .shorted
  else if 16 * q.current.get k < check * (q.currentPerLevel * level) then some .weak
  else some .good

/-- R44, R45: a record after a sample of an ordinary strobe. -/
def Segment.after (x : Option Sample) (g : Segment) : Segment :=
  match x with
  | none => g
  | some .good => { g with weakCount := 0, faultCount := 0, health := .good }
  | some .weak =>
    if g.weakCount < 3 then { g with weakCount := g.weakCount + 1 } else { g with weakCount := 4, health := .weak }
  | some .openString =>
    if g.faultCount = 0 then { g with faultCount := 1 }
    else { g with faultCount := 2, state := .faulted, health := .openString }
  | some .shorted =>
    if g.faultCount = 0 then { g with faultCount := 1 }
    else { g with faultCount := 2, state := .faulted, health := .shorted }

/-- R46: a record after the sample of a self-test pulse. -/
def Segment.afterPulse (x : Option Sample) (g : Segment) : Segment :=
  match x with
  | none => g
  | some .good => { g with weakCount := 0, faultCount := 0, health := .good }
  | some .weak => { g with weakCount := 4, health := .weak }
  | some .openString => { g with faultCount := 2, state := .faulted, health := .openString }
  | some .shorted => { g with faultCount := 2, state := .faulted, health := .shorted }

/-- R53: every ring thermistor's latest reading lies below THERMAL_TRIP_LEVEL - 10. -/
def MonitorState.cooled (trip : Nat) (m : MonitorState) : Prop :=
  ∀ c : Fin 6, c = 1 ∨ c = 2 ∨ c = 3 → ∃ v : Int, m.rest.get c = some v ∧ v + 10 < (trip : Int)

/-- R52, R60, R69, R71, R14: what the entry of a reason into the lockout set brings to a part whose set has it already,
and whose run, if it ends, ends with `why`. -/
inductive AfterEntry (reason : LockoutReason) (why : EndReason) (s : State) : State → Prop
  /-- No run is open, no deferral is held, no self-test goes on, and THERMAL finds no strobe. -/
  | nothing (run : s.run.part ≠ .running) (held : s.ring.deferral = none) (test : s.run.selfTest = none)
      (dark : reason = .thermal → s.ring.strobe = none) : AfterEntry reason why s s
  /-- R69: THERMAL cuts a capture strobe. -/
  | cuts (x : Strobe) (i : Fin 6) (f : Frame) (run : s.run.part ≠ .running) (held : s.ring.deferral = none)
      (test : s.run.selfTest = none) (trip : reason = .thermal) (lit : s.ring.strobe = some x)
      (target : x.target = .capture i) (slot : s.frames.slots.get i = some f) :
      AfterEntry reason why s (s.darkened.reading i f true)
  /-- R14, R16: the run ends, and closes with the sensor path idle. -/
  | closes (c : RunRecord) (run : s.run.part = .running) (opened : s.run.current = some c)
      (held : s.ring.deferral = none) (test : s.run.selfTest = none)
      (dark : reason = .thermal → s.ring.strobe = none) (idle : s.pathIdle) :
      AfterEntry reason why s (s.closed why .ready c)
  /-- R14, R15: the run ends with a capture past its strobe start on the sensor path. -/
  | stops (c : RunRecord) (run : s.run.part = .running) (opened : s.run.current = some c)
      (held : s.ring.deferral = none) (test : s.run.selfTest = none)
      (dark : reason = .thermal → s.ring.strobe = none) (busy : ¬ s.pathIdle) (unarmed : s.noneArmed) :
      AfterEntry reason why s (s.stopping why c)
  /-- R69, R14: THERMAL cuts the strobe of the run it ends. -/
  | cutsAndStops (c : RunRecord) (x : Strobe) (i : Fin 6) (f : Frame) (run : s.run.part = .running)
      (opened : s.run.current = some c) (held : s.ring.deferral = none) (test : s.run.selfTest = none)
      (trip : reason = .thermal) (lit : s.ring.strobe = some x) (target : x.target = .capture i)
      (slot : s.frames.slots.get i = some f) (unarmed : s.noneArmed) :
      AfterEntry reason why s ((s.stopping why c).darkened.reading i f true)
  /-- R60, R15: the run ends with a capture ARMED, deferred or not. -/
  | frees (c : RunRecord) (i : Fin 6) (f : Frame) (run : s.run.part = .running) (opened : s.run.current = some c)
      (held : ∀ d, s.ring.deferral = some d → d.target = .capture i) (test : s.run.selfTest = none)
      (dark : reason = .thermal → s.ring.strobe = none) (slot : s.frames.slots.get i = some f)
      (armed : f.state = .armed) (alone : s.aloneOnPath i) :
      AfterEntry reason why s (s.closedFreeing why .ready c i f)
  /-- R60: the capture of a SINGLE is deferred. -/
  | abandons (d : Deferral) (i : Fin 6) (f : Frame) (run : s.run.part ≠ .running)
      (held : s.ring.deferral = some d) (target : d.target = .capture i) (test : s.run.selfTest = none)
      (dark : reason = .thermal → s.ring.strobe = none) (slot : s.frames.slots.get i = some f)
      (armed : f.state = .armed) (alone : s.aloneOnPath i) :
      AfterEntry reason why s (s.abandoned i f).pathSettled
  /-- R60, R71: the self-test goes on without a lit pulse: a deferred pulse is not fired, and the self-test ends. -/
  | endsTest (run : s.run.part ≠ .running) (held : ∀ d, s.ring.deferral = some d → ∃ k, d.target = .selfTest k)
      (test : s.run.selfTest ≠ none) (dark : s.ring.strobe = none) :
      AfterEntry reason why s (State.startedUp { s with ring := { s.ring with deferral := none } })
  /-- R71: THERMAL cuts a lit pulse, and the self-test ends. -/
  | cutsPulse (x : Strobe) (k : Fin 12) (run : s.run.part ≠ .running) (held : s.ring.deferral = none)
      (test : s.run.selfTest ≠ none) (trip : reason = .thermal) (lit : s.ring.strobe = some x)
      (target : x.target = .selfTest k) : AfterEntry reason why s s.darkened.startedUp
  /-- SUPPLY leaves a lit pulse on, and the self-test ends with it (log 14). -/
  | leavesPulse (x : Strobe) (k : Fin 12) (run : s.run.part ≠ .running) (held : s.ring.deferral = none)
      (test : s.run.selfTest ≠ none) (low : reason = .supply) (lit : s.ring.strobe = some x)
      (target : x.target = .selfTest k) : AfterEntry reason why s s

/-! ## The profile store (chapter 10) -/

/-- R151, R153, R159: an operation has ended: no operation, the latch clear, result and tag recorded, and a read that
waited is served when none is. -/
def StoreState.finished (tag : Byte) (result : OperationResult) (t : StoreState) : StoreState :=
  { t with
    operation := none
    permit := false
    lastResult := some (result, tag)
    serving := if t.serving = none then t.waiting.head? else t.serving
    waiting := if t.serving = none then t.waiting.tail else t.waiting }

/-- R153: the operation has ended, and STORE_DONE is placed. -/
def State.storeDone (tag : Byte) (result : OperationResult) (t : StoreState) (s : State) : State :=
  State.ended { s with
    store := t.finished tag result
    line := { s.line with staged := s.line.staged ++ [.storeDone tag result] } }

/-- R124, R157: the bank a load may take: EMPTY, while the other one is CURRENT. -/
def State.spareBank (which : BankId) (s : State) : Prop :=
  (s.engine.bank which).state = .empty ∧ (s.engine.bank which.other).state = .current

/-- R124, R157, R175: a load of a profile into a bank is accepted: the bank is LOADING, the load record is made, and the
reply is TAKEN. -/
def State.loadTaken (tag : Byte) (id : Nat) (which : BankId) (s : State) : State :=
  let k : Bank := { state := .loading, profileId := some id, references := 0, contents := none }
  State.withTaken .loadProfile tag (.load tag id which) { s with
    engine := s.engine.setBank which k
    store := { s.store with load := some { profileId := id, bank := which, tag := tag } } }

/-- R148: the entry of an area by the tests of the scan. -/
def StoreState.scans (i : Fin 16) (e : DirEntry) (t : StoreState) : Prop :=
  let a := t.areas.get i
  (a.disturbed ≠ none → e = .invalid) ∧
    (a.disturbed = none → (∀ o, a.mem.read o = 255) → e = .empty) ∧
    (a.disturbed = none → (∃ o, a.mem.read o ≠ 255) →
      e = if recordPasses (a.mem.readRun 0 1609) (i.val + 1) then .valid (recordHeader (a.mem.readRun 0 1609))
          else .invalid)

/-- R159: a read claims the array: it waits while a phase is running, and asks for a suspension while the operation is
erasing or programming with fewer than eight; else it is served at once, or joins the reads before it, in the eighth
suspension (log 32) and under a suspension in VERIFYING (log 38) too. -/
def StoreState.claimed (c : Claim) (t : StoreState) : StoreState :=
  let joined : StoreState :=
    if t.serving = none ∧ t.waiting = [] then { t with serving := some c } else { t with waiting := t.waiting ++ [c] }
  match t.operation with
  | none => joined
  | some o =>
    if o.begun = true ∧ o.suspension ≠ .suspended then
      { t with
        waiting := t.waiting ++ [c]
        operation := some
          (if o.suspension = .none ∧ o.phase ≠ .verifying ∧ o.count < 8 then { o with suspension := .asked } else o) }
    else joined

/-- R159: a read has ended: the next one is served, or the operation goes on or begins. -/
def StoreState.released (t : StoreState) : StoreState :=
  { t with
    serving := t.waiting.head?
    waiting := t.waiting.tail
    operation :=
      if t.waiting = [] then t.operation.map fun o => { o with begun := true, suspension := .none }
      else t.operation }

/-- R125: a bank is LOADED with a profile. -/
def State.bankLoaded (which : BankId) (id : Nat) (p : Profile) (s : State) : State :=
  let k : Bank := { state := .loaded, profileId := some id, references := 0, contents := some p }
  { s with engine := s.engine.setBank which k }

/-- R125, R126: a bank is loaded with the sensor path idle and is swapped in at once. -/
def State.bankSwappedIn (which : BankId) (id : Nat) (p : Profile) (s : State) : State :=
  (s.bankLoaded which id p).swapped which

/-- R158: PROFILE_LOADED. -/
def State.loadReported (tag : Byte) (id : Nat) (which : BankId) (r : LoadResult) (s : State) : State :=
  State.ended { s with
    line := { s.line with staged := s.line.staged ++ [.profileLoaded tag id which r] } }

/-- R157: the area is VALID for a lens code and a bore. -/
def StoreState.suits (lens bore : Nat) (i : Fin 16) (h : RecordHeader) (t : StoreState) : Prop :=
  t.directory.get i = .valid h ∧ h.lens = lens ∧ h.boreMin ≤ bore ∧ bore ≤ h.boreMax

/-- The areas an operation still has to do when it is abandoned: its area, and under ALL every area not yet reached. -/
def OperationKind.stillToDo (k : OperationKind) (j : Fin 16) : Prop :=
  match k with
  | .commit i => j = i
  | .erase i => j = i
  | .eraseAll i => i ≤ j
  | .protect _ => False

/-- The area that a phase in progress works on. -/
def OperationKind.inWork (k : OperationKind) (j : Fin 16) : Prop :=
  match k with
  | .commit i => j = i
  | .erase i => j = i
  | .eraseAll i => j = i
  | .protect _ => False

/-- R152, R148: what the abandonment of an operation in ERASING or PROGRAMMING makes of the array, `t` from `u`. One
that has begun leaves its area caught in the middle (log 9), or the control record failing its check and so all sixteen
areas protected, without STORE_ERROR (log 18); one that has not begun has disturbed nothing (log 15). A commit's
programming and, under ALL, the next area's erase count as begun from ERASING_END on (log 35, log 39). The entry of each
area still to be done takes the scan's judgment, and the protect set that of the control record. -/
def StoreState.stopped (o : Operation) (u t : StoreState) : Prop :=
  t = { u with
    areas := t.areas, disturbances := t.disturbances, control := t.control, directory := t.directory,
    protectSet := t.protectSet } ∧
  (∀ j, o.begun = true → o.kind.inWork j → (t.areas.get j).disturbed ≠ none) ∧
  (∀ j, (o.begun = false ∨ ¬ o.kind.inWork j) → t.areas.get j = u.areas.get j) ∧
  (∀ j, o.kind.stillToDo j → (t.areas.get j).mem.wf = true → t.scans j (t.directory.get j)) ∧
  (∀ j, ¬ o.kind.stillToDo j → t.directory.get j = u.directory.get j) ∧
  ((∀ p, o.kind ≠ .protect p) → t.control = u.control ∧ t.protectSet = u.protectSet) ∧
  (∀ p, o.kind = .protect p →
    t.control = (if o.begun = true then .bad else u.control) ∧
    t.protectSet = match t.control with | .erased => 0 | .good set => set | .bad => 0xFFFF)

/-- R153 to R155: the refusal of a write request, in the order of the tests, if one of them fails. -/
def State.writeTests (shielded loading : Bool) (s : State) : Option Reason :=
  if s.store.permit = false then some .noPermit
  else if shielded then some .prot
  else if s.store.lockdown = true ∨ s.pins.wprot = true then some .locked
  else if s.store.operation ≠ none ∨ loading = true then some .busy
  else none

/-- R153 to R155, R159: an operation begins when no read is served or waits; one that has not begun stands in its first
phase, not suspended (log 33, the model's choice). -/
def Operation.started (kind : OperationKind) (phase : Phase) (tag : Byte) (t : StoreState) : Operation where
  kind := kind
  phase := phase
  begun := decide (t.serving = none ∧ t.waiting = [])
  suspension := .none
  count := 0
  tag := tag

/-! ## Invariants -/

/-- A message is a notice. -/
def OutMessage.isNotice : OutMessage → Bool
  | .notice _ => true
  | .reply _ _ _ => false

/-- R162, R164: at most four messages in the inbound buffer and sixteen in the outbound queue, at most fourteen of them
notices; between events no notice is still to be placed. -/
def State.linesWithin (s : State) : Prop :=
  s.line.inbound.length ≤ 4 ∧ s.line.outbound.length ≤ 16 ∧
    (s.line.outbound.filter OutMessage.isNotice).length ≤ 14 ∧ s.line.staged = []

/-- The staging buffer and every profile area are in the one canonical form (the model's own, log 6). -/
def State.memoriesCanonical (s : State) : Prop :=
  s.store.staging.wf = true ∧ ∀ i : Fin 16, (s.store.areas.get i).mem.wf = true

/-- The strobe is a capture's. -/
def Strobe.isCapture (x : Strobe) : Bool :=
  match x.target with
  | .capture _ => true
  | .selfTest _ => false

/-- R55, R64, R67: LIT is asserted exactly while a strobe is in progress, EXPOSE exactly while that is a capture's, the
guard runs exactly then with at most 5,000 µs, and the segments are driven at the strobe's levels or are off. -/
def State.lightMatches (s : State) : Prop :=
  match s.ring.strobe with
  | some x =>
    s.ring.lit = true ∧ s.ring.expose = x.isCapture ∧ s.ring.drives = x.levels ∧
      ∃ g, s.ring.guard = some g ∧ g ≤ 5000
  | none =>
    s.ring.lit = false ∧ s.ring.expose = false ∧ s.ring.drives = Table.fill 12 0 ∧ s.ring.guard = none

/-- R168: every parameter has a value in its range, and the cross-check holds. -/
def ParamTable.legal (t : ParamTable) : Prop :=
  (∀ p : Param, p.inRange (t.value p) = true) ∧ t.value .thermalDerateStart + 6 ≤ t.value .thermalTripLevel

/-- R122: a bank holds a profile id unless EMPTY, and contents unless EMPTY or LOADING. -/
def Bank.legal (k : Bank) : Prop :=
  (k.profileId = Option.none ↔ k.state = .empty) ∧ (k.contents = Option.none ↔ k.state = .empty ∨ k.state = .loading)

/-- R122, R124, R127: exactly one bank is CURRENT, each bank holds what its state says, and a load in progress has its
own bank LOADING. -/
def State.banksOrdered (s : State) : Prop :=
  (s.engine.bankA.state = .current ↔ s.engine.bankB.state ≠ .current) ∧
    s.engine.bankA.legal ∧ s.engine.bankB.legal ∧
    ∀ l, s.store.load = some l → (s.engine.bank l.bank).state = .loading

/-- R151: the areas an operation erases or programs are outside the protect set; a protect write writes none. -/
def StoreState.mayWrite (t : StoreState) (k : OperationKind) : Prop :=
  match k with
  | .commit i => t.isProtected i = false
  | .erase i => t.isProtected i = false
  | .eraseAll _ => t.protectSet = 0
  | .protect _ => True

/-- R3, R160: while the scan of a reset goes on the part is in STARTUP, before the self-test, with no operation. -/
def State.scanIsFirst (s : State) : Prop :=
  s.store.scanning = true →
    s.run.part = .startup ∧ s.run.selfTest = none ∧ s.run.wakeTimer = none ∧ s.store.operation = none ∧
      ∀ d, s.ring.deferral = some d → ∃ i, d.target = .capture i

/-- R151, R152: an operation in ERASING or PROGRAMMING means that lockdown is not in force, WPROT is released, and its
areas are unprotected. -/
def State.writesAllowed (s : State) : Prop :=
  s.scanIsFirst ∧ (s.powered = false → s.store.operation = none) ∧
    ∀ o, s.store.operation = some o → o.phase ≠ .verifying →
      s.store.lockdown = false ∧ s.pins.wprot = false ∧ s.store.mayWrite o.kind

end Sys2Proof.Machine
end

