-- ==== Sys2Proof/Certificates/Slice0/Obligations.lean ====
section
/-! DEFINITION. The statements for the provers. Each is a proposition about `step`, `exec` or an operation that `exec`
uses, in the words of Safety.lean. -/

open Sys2Proof Sys2Proof.Machine

/-! ## The queue of commands, and the line (chapters 11 and 12) -/

/-- One step runs the command at the front of the queue on the state with the queue's rest. -/
def Obligations.StepRunsFrontCommand : Prop :=
  ∀ (c : Instr) (rest : List Instr) (s : State),
    s.pending = c :: rest → step s = exec c { s with pending := rest }

/-- R1: in STARTUP and WAKING every request but IDENTIFY and STATUS, and in DORMANT every request but those and WAKE,
is refused WRONG_STATE whatever its body holds; nothing else changes. -/
def Obligations.ScreenedRequestIsRefusedWrongState : Prop :=
  ∀ (c : Instr) (k : RequestKind) (tag : Byte) (body : List Byte) (s : State),
    requestOf c = some (k, tag, body) → c.wellFormed = true → s.takes k.byte tag body → screened s.run.part k →
      exec c s = .next (s.withRefusal k tag .wrongState)

/-- Section 12.2: the kind code and the body length of every request kind. R174: a request whose body has another
length than section 12.2 gives it, or than a STORE_STAGE body states, is refused MALFORMED in every part state that
answers it; nothing else changes. -/
def Obligations.BodyLengthsAreTested : Prop :=
  (([.identify, .status, .getParam, .setParam, .clearConditions, .reset, .runStart, .runStop, .trigger, .single, .park,
        .wake, .sleep, .setPosition, .segmentSet, .segmentReport, .monitorReport, .balanceHold, .balanceRelease,
        .balanceRestart, .zoneReport, .releaseFrame, .slotReport, .transferGrant, .transferStop, .loadProfile,
        .storeStage, .storePermit, .storeRevoke, .storeCommit, .storeErase, .storeProtect, .storeLockdown, .storeRead,
        .storeDirectory] : List RequestKind).map (fun k => (k.code, k.bodyLength)) =
      [(0x01, some 0), (0x02, some 0), (0x03, some 1), (0x04, some 5), (0x05, some 4), (0x06, some 0), (0x07, some 4),
        (0x08, some 0), (0x09, some 0), (0x0A, some 0), (0x0B, some 0), (0x0C, some 0), (0x0D, some 0), (0x0E, some 4),
        (0x0F, some 3), (0x10, some 0), (0x11, some 0), (0x12, some 0), (0x13, some 0), (0x14, some 0), (0x15, some 0),
        (0x16, some 5), (0x17, some 0), (0x18, some 7), (0x19, some 6), (0x1A, some 4), (0x1B, none), (0x1C, some 0),
        (0x1D, some 0), (0x1E, some 1), (0x1F, some 1), (0x20, some 2), (0x21, some 0), (0x22, some 5), (0x23, some 0)]) ∧
  (∀ (c : Instr) (k : RequestKind) (tag : Byte) (body : List Byte) (s : State),
      requestOf c = some (k, tag, body) → c.wellFormed = true → s.takes k.byte tag body → ¬ screened s.run.part k →
        (k ≠ .storeStage → k.bodyLength ≠ some body.length) →
        (k = .storeStage →
          body.length < 4 ∨ body.length ≠ 4 + le2 (body.getD 2 0) (body.getD 3 0)) →
        exec c s = .next (s.withRefusal k tag .malformed))

/-- R163, R175: a message whose kind is no request kind is refused UNKNOWN_KIND in every part state, by a reply of
kind 0xFF that carries the kind received; nothing else changes. -/
def Obligations.UndefinedKindIsRefusedUnknownKind : Prop :=
  ∀ (kind tag : Byte) (body : List Byte) (s : State),
    s.takes kind tag body → (kind.toNat = 0 ∨ 0x23 < kind.toNat) →
      exec (.unknownKind kind tag body) s =
        .next { s with line := s.line.withMessage kind tag (.reply 0xFF tag (.unknownKind kind)) }

/-- R169: IDENTIFY and STATUS are answered DONE in every part state, and change nothing; STATUS carries the snapshot
its table lists. -/
def Obligations.IdentifyAndStatusAreAnswered : Prop :=
  ∀ (tag : Byte) (s : State),
    (s.takes 0x01 tag [] → exec (.identify tag []) s = .next (s.withDone .identify tag .identity)) ∧
    (s.takes 0x02 tag [] →
      ∃ r : StatusReport, exec (.status tag []) s = .next (s.withDone .status tag (.status r)) ∧
        r.part = s.run.part ∧
        (∀ x, s.run.current = some x → r.run = some x) ∧ (s.run.current = none → r.run = s.run.last) ∧
        r.conditions = s.line.conditions ∧ r.lockout = s.ring.lockout ∧ r.balance = s.balance.state ∧
        (∀ i, r.slots.get i = (s.frames.slots.get i).map Frame.state) ∧
        r.bankA = ⟨s.engine.bankA.state, s.engine.bankA.profileId, s.engine.bankA.references⟩ ∧
        r.bankB = ⟨s.engine.bankB.state, s.engine.bankB.profileId, s.engine.bankB.references⟩ ∧
        r.operation = s.store.operation.map (fun o => (o.kind, o.phase)) ∧
        r.speed = s.travel.speed ∧ r.method = s.travel.method ∧ r.direction = s.travel.direction ∧
        r.position = s.travel.position ∧ r.countdown = s.travel.countdown ∧
        r.supply = s.monitor.rest.get 0 ∧ r.temperatures.get 0 = s.monitor.rest.get 1 ∧
        r.temperatures.get 1 = s.monitor.rest.get 2 ∧ r.temperatures.get 2 = s.monitor.rest.get 3 ∧
        r.temperatures.get 3 = s.monitor.rest.get 4)

/-- R51, R85: SEGMENT_REPORT and MONITOR_REPORT carry the segment table, with the effective ceilings of R37, and the
monitor's state; they change nothing. R102, R120, R156: ZONE_REPORT, SLOT_REPORT and STORE_DIRECTORY carry the balance
unit, the frame store and the profile store as they stand; they change nothing. -/
def Obligations.ReportsCarryTheBlocksAsTheyStand : Prop :=
  (∀ (tag : Byte) (s : State),
      (s.handles .segmentReport tag [] →
        ∃ r : Table 12 SegmentReport,
          exec (.segmentReport tag []) s = .next (s.withDone .segmentReport tag (.segments r)) ∧
          ∀ i : Fin 12, (r.get i).segment = s.ring.segments.get i ∧
            (((s.ring.segments.get i).state = .enabled →
              (r.get i).effectiveCeiling = min (s.ring.segments.get i).hostCeiling
                (groupCeiling (s.monitor.thermalStep.get ⟨i.val / 4, by omega⟩))) ∧
            ((s.ring.segments.get i).state ≠ .enabled → (r.get i).effectiveCeiling = 0))) ∧
      (s.handles .monitorReport tag [] →
        ∃ r : MonitorReport,
          exec (.monitorReport tag []) s = .next (s.withDone .monitorReport tag (.monitor r)) ∧
          r.rest = s.monitor.rest ∧ r.lastStrobe = s.monitor.lastStrobe ∧ r.supplyStep = s.monitor.supplyStep ∧
          r.droopFree = s.monitor.droopFree ∧ r.lowStreak = s.monitor.lowStreak ∧
          r.ringBudget = 3060 - 384 * s.monitor.supplyStep ∧
          (∀ g : Fin 3, r.groups.get g = (s.monitor.thermalStep.get g, groupCeiling (s.monitor.thermalStep.get g))) ∧
          (∀ x, s.monitor.conversion = some x → r.resolution = some x.resolution) ∧
          (s.monitor.conversion = none → r.resolution = s.monitor.lastResolution))) ∧
  (∀ (tag : Byte) (s : State),
      (s.handles .zoneReport tag [] →
        exec (.zoneReport tag []) s = .next (s.withDone .zoneReport tag (.zones
          { state := s.balance.state, settle := s.balance.settle, stale := s.balance.stale,
            energies := s.balance.energies, zoneMap := s.balance.zoneMap, verdicts := s.balance.verdicts }))) ∧
      (s.handles .slotReport tag [] →
        ∃ r : SlotReport, exec (.slotReport tag []) s = .next (s.withDone .slotReport tag (.slots r)) ∧
          r.nextFrame = s.frames.nextFrame ∧ r.queue = s.frames.queue ∧
          (∀ i : Fin 6, s.frames.slots.get i = none → r.slots.get i = none) ∧
          (∀ (i : Fin 6) (f : Frame), s.frames.slots.get i = some f →
            r.slots.get i = some
              { state := f.state, number := f.number, run := f.run, source := f.source, position := f.position,
                bank := f.bank, profileId := f.profileId, flags := f.flags, tilesDone := f.tilesDone,
                nextUnsent := f.nextUnsent, abandon := f.abandon, strobe := f.strobe })) ∧
      (s.handles .storeDirectory tag [] →
        exec (.storeDirectory tag []) s = .next (s.withDone .storeDirectory tag (.directory
          { entries := s.store.directory, protectSet := s.store.protectSet, lockdown := s.store.lockdown,
            wprot := s.pins.wprot, permit := s.store.permit, operation := s.store.operation,
            lastResult := s.store.lastResult }))))

/-- R168, R29: SET_PARAM: a value in range that keeps the cross-check is put into the table and, for a TRIGGER_SPACING
below an active countdown, lowers it; any other is refused BAD_VALUE. Nothing else changes. A value put into the table
is that parameter's value from then on, and no other parameter's. -/
def Obligations.SetParamWritesTheTable : Prop :=
  (∀ (t : ParamTable) (p q : Param) (v : Nat), (t.put p v).value q = if q = p then v else t.value q) ∧
  ∀ (tag id b0 b1 b2 b3 : Byte) (s : State), s.handles .setParam tag [id, b0, b1, b2, b3] →
    ((id.toNat = 0 ∨ 28 < id.toNat) →
      exec (.setParam tag [id, b0, b1, b2, b3]) s = .next (s.withRefusal .setParam tag .badValue)) ∧
    ∀ p : Param, id.toNat = p.index.val + 1 →
      let v := le4 b0 b1 b2 b3
      let ok := p.inRange v = true ∧
        (p = .thermalDerateStart → v + 6 ≤ s.line.params.value .thermalTripLevel) ∧
        (p = .thermalTripLevel → s.line.params.value .thermalDerateStart + 6 ≤ v)
      (¬ ok → exec (.setParam tag [id, b0, b1, b2, b3]) s = .next (s.withRefusal .setParam tag .badValue)) ∧
      (ok →
        let t : State := { s with
          line := { s.line with params := s.line.params.put p v }
          travel :=
            if p = Param.triggerSpacing then { s.travel with countdown := s.travel.countdown.map fun c => min c v }
            else s.travel }
        exec (.setParam tag [id, b0, b1, b2, b3]) s = .next (t.withDone .setParam tag (.param id.toNat v)))

/-- R168: GET_PARAM replies with the id and the value of the parameter; an id outside 1 to 28 is refused BAD_VALUE.
R168: the ranges and the reset values of the parameter table. -/
def Obligations.ParametersAreReadInTheirRanges : Prop :=
  (∀ (tag id : Byte) (s : State), s.handles .getParam tag [id] →
      (∀ p : Param, id.toNat = p.index.val + 1 →
        exec (.getParam tag [id]) s =
          .next (s.withDone .getParam tag (.param id.toNat (s.line.params.value p)))) ∧
      ((id.toNat = 0 ∨ 28 < id.toNat) →
        exec (.getParam tag [id]) s = .next (s.withRefusal .getParam tag .badValue))) ∧
  ((∀ v : Nat,
      (Param.inRange Param.triggerSpacing v = true ↔ 1 ≤ v ∧ v ≤ 65535) ∧
      (Param.inRange Param.interval v = true ↔ 20 ≤ v ∧ v ≤ 10000) ∧
      (Param.inRange Param.countPitch v = true ↔ 10 ≤ v ∧ v ≤ 5000) ∧
      (Param.inRange Param.speedWindow v = true ↔ 10 ≤ v ∧ v ≤ 1000) ∧
      (Param.inRange Param.stallTime v = true ↔ 50 ≤ v ∧ v ≤ 5000) ∧
      (Param.inRange Param.wakeDistance v = true ↔ 1 ≤ v ∧ v ≤ 65535) ∧
      (Param.inRange Param.blurBudget v = true ↔ 20 ≤ v ∧ v ≤ 2000) ∧
      (Param.inRange Param.strobeMax v = true ↔ 20 ≤ v ∧ v ≤ 4000) ∧
      (∀ p : Param, p = .targetRing0 ∨ p = .targetRing1 ∨ p = .targetRing2 ∨ p = .targetRing3 →
        (p.inRange v = true ↔ 64 ≤ v ∧ v ≤ 960)) ∧
      (Param.inRange Param.stepLimit v = true ↔ 5 ≤ v ∧ v ≤ 100) ∧
      (Param.inRange Param.settleBand v = true ↔ 1 ≤ v ∧ v ≤ 20) ∧
      (Param.inRange Param.glareFraction v = true ↔ 1 ≤ v ∧ v ≤ 50) ∧
      (Param.inRange Param.voidLevel v = true ↔ v ≤ 255) ∧
      (Param.inRange Param.checkFraction v = true ↔ 8 ≤ v ∧ v ≤ 15) ∧
      (Param.inRange Param.shortFraction v = true ↔ 1 ≤ v ∧ v ≤ 6) ∧
      (Param.inRange Param.thermalDerateStart v = true ↔ 40 ≤ v ∧ v ≤ 90) ∧
      (Param.inRange Param.thermalTripLevel v = true ↔ 50 ≤ v ∧ v ≤ 95) ∧
      (Param.inRange Param.supplyLowLevel v = true ↔ v ≤ 7) ∧ (Param.inRange Param.droopLevel v = true ↔ v ≤ 7) ∧
      (Param.inRange Param.exclTimeout v = true ↔ 1 ≤ v ∧ v ≤ 200) ∧
      (Param.inRange Param.silenceTimeout v = true ↔ v ≤ 600) ∧
      (Param.inRange Param.slotPolicy v = true ↔ v = 1 ∨ v = 2) ∧ (Param.inRange Param.autoRelease v = true ↔ v = 0 ∨ v = 1) ∧
      (Param.inRange Param.adcResolution v = true ↔ v = 8 ∨ v = 10 ∨ v = 12) ∧
      (Param.inRange Param.noticeMask v = true ↔ v < 2 ^ 20)) ∧
    (∀ p : Param, State.reset.line.params.value p =
      [200, 500, 250, 100, 1000, 50, 250, 2000, 448, 512, 512, 512, 25, 3, 12, 40, 12, 3, 70, 80, 2, 1, 20, 30, 1, 0, 12,
        2 ^ 20 - 1].getD p.index.val 0))

/-- R167, R53: CLEAR_CONDITIONS clears the flags its mask names and then lets every reason leave the lockout set whose
flag is clear and whose cause has ended; the reply carries both sets. A mask naming a condition above 20 is refused
BAD_VALUE. -/
def Obligations.ClearConditionsClearsAndReleases : Prop :=
  ∀ (tag b0 b1 b2 b3 : Byte) (s : State), s.handles .clearConditions tag [b0, b1, b2, b3] →
    let mask := le4 b0 b1 b2 b3
    (2 ^ 20 ≤ mask →
      exec (.clearConditions tag [b0, b1, b2, b3]) s = .next (s.withRefusal .clearConditions tag .badValue)) ∧
    (mask < 2 ^ 20 →
      ∃ (set : BitVec 20) (lockout : LockoutSet),
        exec (.clearConditions tag [b0, b1, b2, b3]) s =
          .next (State.withDone .clearConditions tag (.conditions set lockout)
            { s with
              line := { s.line with conditions := set }
              ring := { s.ring with lockout := lockout } }) ∧
        (∀ n : Nat, n < 20 → set.getLsbD n = (s.line.conditions.getLsbD n && !mask.testBit n)) ∧
        lockout.thermal = (s.ring.lockout.thermal &&
          (set.getLsbD 9 || !(readingIs (fun v => v < (s.line.params.value .thermalTripLevel : Int) - 10)
              (s.monitor.rest.get 1) &&
            readingIs (fun v => v < (s.line.params.value .thermalTripLevel : Int) - 10) (s.monitor.rest.get 2) &&
            readingIs (fun v => v < (s.line.params.value .thermalTripLevel : Int) - 10) (s.monitor.rest.get 3)))) ∧
        lockout.supply = (s.ring.lockout.supply &&
          (set.getLsbD 7 || !readingIs (fun v => 150 + 10 * (s.line.params.value .supplyLowLevel : Int) + 10 ≤ v)
            (s.monitor.rest.get 0))) ∧
        lockout.guard = (s.ring.lockout.guard && set.getLsbD 10))

/-- R166: a condition that is clear becomes set and, in NOTICE_MASK, queues one CONDITION notice with the set after
the raise; NOTICE_LOST queues none; one that is set changes nothing. R164: at the end of an event its notices join the
outbound queue in order while it holds fewer than fourteen messages; any further one is dropped and NOTICE_LOST is
set, which queues no notice. -/
def Obligations.ConditionsAndNoticesAreQueued : Prop :=
  (∀ (c : Condition) (l : LineState),
      (c.isIn l.conditions = true → l.raise c = l) ∧
      (c.isIn l.conditions = false →
        ∃ set : BitVec 20, (∀ d : Condition, d.isIn set = (d.isIn l.conditions || decide (d = c))) ∧
          l.raise c =
            { l with
              conditions := set
              staged :=
                if c ≠ .noticeLost ∧ (l.params.value .noticeMask).testBit c.bit = true then
                  l.staged ++ [.condition c set]
                else l.staged })) ∧
  (∀ l : LineState,
      let room := 14 - l.outbound.length
      l.flush =
        { l with
          staged := []
          outbound := l.outbound ++ (l.staged.take room).map OutMessage.notice
          conditions :=
            if room < l.staged.length then Condition.addTo .noticeLost l.conditions else l.conditions })

/-- R170: an accepted RESET is answered DONE and the decoder takes no further request; with a full queue the reply
waits, as any reply. Nothing else changes. -/
def Obligations.ResetRequestStopsTheDecoder : Prop :=
  ∀ (tag : Byte) (s : State), s.handles .reset tag [] →
    let m := OutMessage.reply 0x86 tag (.done .nothing)
    exec (.reset tag []) s = .next { s with
      line := { s.line with
        inbound := s.line.inbound.tail
        inHand := some
          { kind := 0x06, tag := tag, wait := if s.line.outbound.length < 16 then .reset else .place m }
        outbound := if s.line.outbound.length < 16 then s.line.outbound ++ [m] else s.line.outbound } }

/-- R161, R162, R19: bytes that spell one message in a good envelope, arriving while the receiver hunts, put it into
the inbound buffer, or raise RX_OVERRUN where that holds four; either way the silence timer restarts. -/
def Obligations.GoodMessageReachesTheBuffer : Prop :=
  ∀ (kind tag : Byte) (body : List Byte) (s : State),
    s.between → s.line.receiver = .hunting → body.length ≤ 298 →
      exec (.messageReceived (envelope kind tag body)) s = .next { s with
        line :=
          if s.line.inbound.length < 4 then
            { s.line with inbound := s.line.inbound ++ [{ kind := kind, tag := tag, body := body }] }
          else (s.line.raise .rxOverrun).flush
        run := { s.run with
          silenceTimer :=
            if s.line.params.value .silenceTimeout = 0 then none
            else some (s.line.params.value .silenceTimeout) } }

/-- R161: what one byte does to the receiver: hunting, every byte but 0xA5 is dropped; receiving, 0xA5 is a byte like
any other; a LENGTH below 2 or above 300, a failed check and the gap limit discard the message with LINK_CHECK. That a
GAP_LIMIT_EXPIRY given to a hunting receiver, whose gap limit does not run, changes nothing is the model's (log 3,
DEDUCED). -/
def Obligations.ReceiverHuntsGathersAndDiscards : Prop :=
  ∀ (b : Byte) (bytes : List Byte) (s : State), s.between →
    let discarded := (LineState.raise .linkCheck { s.line with receiver := .hunting }).flush
    let gathered := bytes ++ [b]
    let length := le2 (gathered.getD 0 0) (gathered.getD 1 0)
    (s.line.receiver = .hunting →
      (b ≠ 0xA5 → exec (.messageReceived [b]) s = .next s) ∧
      exec .syncByteReceived s = .next { s with line := { s.line with receiver := .receiving [] } } ∧
      exec .gapLimitExpiry s = .next s) ∧
    (s.line.receiver = .receiving bytes →
      exec .gapLimitExpiry s = .next { s with line := discarded } ∧
      (gathered.length < 2 ∨ (2 ≤ length ∧ length ≤ 300 ∧ gathered.length < 4 + length) →
        exec (.messageReceived [b]) s = .next { s with line := { s.line with receiver := .receiving gathered } }) ∧
      (2 ≤ gathered.length → (length < 2 ∨ 300 < length) →
        exec (.messageReceived [b]) s = .next { s with line := discarded }) ∧
      (2 ≤ length → length ≤ 300 → gathered.length = 4 + length →
        (crc16 (gathered.take (2 + length))).toNat ≠
          le2 (gathered.getD (2 + length) 0) (gathered.getD (3 + length) 0) →
        exec (.messageReceived [b]) s = .next { s with line := discarded }) ∧
      exec .syncByteReceived s = exec (.messageReceived [0xA5]) s)

/-- R172, R176: the two checks over the nine characters "123456789". R172, R165, section 12.4: every message the part
sends is 0xA5, its true LENGTH, its kind, its tag (0 on a notice and a tile), its body and the CRC-16 of LENGTH
through BODY; FRAME_READY has 21 body bytes and RUN_ENDED 24. IDENTIFY's identity values and store geometry take 23 bytes
at most, whatever the values are: that each is a number of 1, 2 or 4 bytes is the model's choice (log 8). -/
def Obligations.MessagesOnTheLineAreWellFormed : Prop :=
  (crc16 [0x31, 0x32, 0x33, 0x34, 0x35, 0x36, 0x37, 0x38, 0x39] = 0x29B1#16 ∧
      crc32 [0x31, 0x32, 0x33, 0x34, 0x35, 0x36, 0x37, 0x38, 0x39] = 0xCBF43926#32) ∧
  ((∀ (kind tag : Byte) (body : List Byte),
      let span : List Byte :=
        [BitVec.ofNat 8 (2 + body.length), BitVec.ofNat 8 ((2 + body.length) / 256), kind, tag] ++ body
      envelope kind tag body =
        ([0xA5] : List Byte) ++ span ++ [(crc16 span).setWidth 8, ((crc16 span) >>> 8).setWidth 8]) ∧
    (∀ (kind tag : Byte) (body : ReplyBody),
      (OutMessage.reply kind tag body).wire = envelope kind tag body.bytes) ∧
    (∀ n : Notice, ∃ kind : Byte, 0xE1 ≤ kind.toNat ∧ kind.toNat ≤ 0xE7 ∧
      (OutMessage.notice n).wire = envelope kind 0 n.bytes) ∧
    (∀ n : FrameNotice, (Notice.frameReady n).bytes.length = 21) ∧
    (∀ r : RunRecord, (Notice.runEnded r).bytes.length = 24) ∧
    (∀ i : Identity, (identityBytes i).length ≤ 23) ∧
    (∀ (i : Fin 6) (f : Frame) (t : Nat), tileWire i f t = envelope 0xF0 0 (tileBody i f t)) ∧
    (∀ (i : Fin 6) (f : Frame) (t : Nat), (f.tiles.getD t []).length = 4096 → (tileBody i f t).length = 12304))

/-- R140, R164: the free line is given to the outbound queue when the tile sender does not wait or had it last, and to
the tile sender when the queue is empty or had it last; the party that has to wait gets nothing. The line is given by the
two start commands; that one given out of turn, or on a busy line, changes nothing is the model's choice (log 23; log
3, DEDUCED). -/
def Obligations.LineAlternatesBetweenQueueAndTiles : Prop :=
  ∀ s : State, s.between →
    (∀ (m : OutMessage) (rest : List OutMessage), s.line.onLine = none → s.line.outbound = m :: rest →
      ((¬ tileSenderWaits s ∨ s.line.lastParty = .tiles) →
        exec .queueMessageStart s = .next { s with
          line := { s.line with onLine := some { party := .queue, bytes := m.wire }, lastParty := .queue } }) ∧
      (tileSenderWaits s → s.line.lastParty = .queue → exec .queueMessageStart s = .next s)) ∧
    (∀ (t : Transfer) (f : Frame), s.line.onLine = none → s.transfer = some t →
      s.frames.slots.get t.slot = some f → 0 < t.credits → t.onLine = none → f.nextUnsent ≤ 191 →
      ((s.line.outbound = [] ∨ s.line.lastParty = .queue) →
        exec .tileStart s = .next { s with
          line := { s.line with
            onLine := some { party := .tiles, bytes := tileWire t.slot f f.nextUnsent }
            lastParty := .tiles }
          transfer := some { t with credits := t.credits - 1, onLine := some f.nextUnsent } }) ∧
      (s.line.outbound ≠ [] → s.line.lastParty = .tiles → exec .tileStart s = .next s)) ∧
    (s.line.onLine ≠ none → exec .queueMessageStart s = .next s ∧ exec .tileStart s = .next s)

/-- R164: when the head message, no RESET reply, has left the line, it leaves the queue; a reply that waited for room
is placed in the same event and frees the decoder. R141, R142: when a tile has left the line, the slot's next unsent
tile increments; tile 191 discards the transfer and makes the slot SENT, or FREE under AUTO_RELEASE. -/
def Obligations.MessageEndFreesTheLine : Prop :=
  (∀ (s : State) (x : OnLine) (m : OutMessage) (rest : List OutMessage),
      s.between → s.line.onLine = some x → x.party = .queue → s.line.outbound = m :: rest →
      m.isResetReply = false →
        ((∀ (h : InHand) (r : OutMessage), s.line.inHand = some h → h.wait ≠ .place r) →
          exec .messageSent s = .next { s with line := { s.line with onLine := none, outbound := rest } }) ∧
        (∀ (h : InHand) (r : OutMessage), s.line.inHand = some h → h.wait = .place r → rest.length < 16 →
          exec .messageSent s = .next { s with
            line := { s.line with
              onLine := none
              outbound := rest ++ [r]
              inHand := if r.isResetReply then some { h with wait := .reset } else none } })) ∧
  (∀ (s : State) (x : OnLine) (t : Transfer) (f : Frame) (tile : Nat),
      s.between → s.line.onLine = some x → x.party = .tiles → s.transfer = some t → t.onLine = some tile →
      s.frames.slots.get t.slot = some f → f.state = .sending →
      (∀ (h : InHand) (i : Fin 6) (release : Bool), s.line.inHand = some h → h.wait ≠ .stop i release) →
        (tile ≠ 191 →
          exec .tileMessageSent s = .next { s with
            line := { s.line with onLine := none }
            frames := { s.frames with
              slots := s.frames.slots.set t.slot (some { f with nextUnsent := f.nextUnsent + 1 }) }
            transfer := some { t with onLine := none } }) ∧
        (tile = 191 →
          exec .tileMessageSent s = .next { s with
            line := { s.line with onLine := none }
            frames := { s.frames with
              slots := s.frames.slots.set t.slot
                (if s.line.params.value .autoRelease = 1 then none
                 else some { f with state := .sent, nextUnsent := f.nextUnsent + 1 }) }
            transfer := none }))

/-- R170: the RESET input, and the RESET reply's last byte leaving the line, bring the soft reset, which keeps the run
number, the position, the next frame number and lockdown. R2, R81: a power-on reset, from any state, and a brownout,
which leaves the part without power (log 13). -/
def Obligations.ResetsLeaveTheResetState : Prop :=
  (∀ s : State, s.between →
      (∃ t, exec .resetInput s = .next t ∧ t.powered = true ∧
        resetState s.run.runNumber s.travel.position s.frames.nextFrame s.store.lockdown s t) ∧
      (∀ (x : OnLine) (kind tag : Byte) (r : Result) (rest : List OutMessage),
        s.line.onLine = some x → x.party = .queue → kind = 0x86 →
        s.line.outbound = OutMessage.reply kind tag (.done r) :: rest →
          exec .messageSent s = exec .resetInput s)) ∧
  (∀ s : State,
      (∃ t, exec .powerOnReset s = .next t ∧ t.powered = true ∧ resetState 0 0 1 false s t) ∧
      (∃ t, exec .brownout s = .next t ∧ t.powered = false ∧ resetState 0 0 1 false s t))

/-- The model's choices of log 1 and log 13: on an empty queue a step leaves the part as it is; while a brownout holds
the part, no command but POWER_ON_RESET and BROWNOUT changes anything except the level of an input line. -/
def Obligations.IdleOrUnpoweredPartDoesNothing : Prop :=
  (∀ s : State, s.pending = [] → step s = .next s) ∧
  (∀ (c : Instr) (s : State), s.powered = false → c ≠ .powerOnReset → c ≠ .brownout →
      ∃ p : Pins, exec c s = .next { s with pins := p })

/-! ## Runs and part states (chapter 1) -/

/-- R5: an accepted RUN_START opens a run under the next number, starts its mode's trigger source, restarts the
silence timer, makes the part RUNNING and replies with the run number; first-now then takes one trigger with the run's
mode as its source. Nothing else changes. -/
def Obligations.RunStartOpensARun : Prop :=
  ∀ (tag m c0 c1 f : Byte) (mode : RunMode) (s : State), s.handles .runStart tag [m, c0, c1, f] →
    s.run.part = .ready → s.ring.lockout = { thermal := false, supply := false, guard := false } →
    (m = 1 ∧ mode = .distance ∨ m = 2 ∧ mode = .interval ∨ m = 3 ∧ mode = .host) →
      let u := runOpened mode (le2 c0 c1) s
      (f = 0 →
        exec (.runStart tag [m, c0, c1, f]) s = .next (u.withDone .runStart tag (.runNumber u.run.runNumber))) ∧
      (f = 1 → ∀ (o : TriggerOutcome) (t : State),
        Triggered (match mode with | .distance => .distance | .interval => .interval | .host => .host)
          s.travel.position u o t →
        exec (.runStart tag [m, c0, c1, f]) s =
          .next (t.withDone .runStart tag (.runNumber u.run.runNumber)).ended)

/-- R14, R15, R16: RUN_STOP, and PARK in RUNNING (R18), end the run: with a capture past its strobe start the part is
STOPPING; with the sensor path idle the run closes at once, its RUN_ENDED queued behind the reply, and the part is
READY after RUN_STOP and PARKED after PARK. A run end with a slot ARMED is the next statement's.
That the run closes at once when the reply of RUN_STOP has to wait, with sixteen messages queued, is the model's choice
(log 40). -/
def Obligations.RunStopAndParkEndTheRun : Prop :=
  ∀ (tag : Byte) (c : RunRecord) (s : State), s.run.part = .running → s.run.current = some c →
    s.noneArmed →
    (s.handles .runStop tag [] →
      (¬ s.pathIdle → exec (.runStop tag []) s = .next ((s.stopping .hostStop c).withDone .runStop tag .nothing)) ∧
      (s.pathIdle →
        exec (.runStop tag []) s =
          .next ((s.closed .hostStop .ready c).withDone .runStop tag .nothing).ended)) ∧
    (s.handles .park tag [] →
      (¬ s.pathIdle → exec (.park tag []) s = .next ((s.stopping .parked c).withDone .park tag .nothing)) ∧
      (s.pathIdle →
        exec (.park tag []) s = .next ((s.closed .parked .parked c).withDone .park tag .nothing).ended))

/-- R14 to R16, R18, R19, R57, R126: a run end by RUN_STOP, PARK or silence with a slot ARMED and alone on the sensor
path: the run's capture, counted skipped, or that of a SINGLE, counted in no run. A deferral is discarded, the slot is
freed and its bank reference ends, a LOADED bank is swapped in, and the run closes at once, its RUN_ENDED behind the
reply. The part is READY after RUN_STOP and PARKED after PARK and silence; nothing else changes. That LINK_SILENCE is
raised before RUN_ENDED is queued, and that the silence timer stays stopped, are the model's (log 22, log 27, DEDUCED).
That the run closes at once when the reply of RUN_STOP has to wait, with sixteen messages queued, is the model's choice
(log 40). The run ends of a lockout entry are in the statement on rest readings. -/
def Obligations.RunEndAbandonsTheArmedSlot : Prop :=
  ∀ (tag : Byte) (c : RunRecord) (i : Fin 6) (f : Frame) (s : State),
    s.run.part = .running → s.run.current = some c → s.frames.slots.get i = some f → f.state = .armed →
    s.aloneOnPath i →
    (s.handles .runStop tag [] →
      exec (.runStop tag []) s =
        .next ((s.closedFreeing .hostStop .ready c i f).withDone .runStop tag .nothing).ended) ∧
    (s.handles .park tag [] →
      exec (.park tag []) s =
        .next ((s.closedFreeing .parked .parked c i f).withDone .park tag .nothing).ended) ∧
    (∀ n, s.between → s.run.silenceTimer = some n →
      exec .silenceExpiry s = .next (State.closedFreeing .silence .parked c i f { s with
        run := { s.run with silenceTimer := none }
        line := s.line.raise .linkSilence }).ended)

/-- R5: RUN_START's tests, in order: a code that is no mode or no yes or no, then the part state, then the lockout
set; nothing else changes. R14, R17, R18, R20, R21: outside the part states that accept them, RUN_STOP, PARK, WAKE and
SLEEP are refused WRONG_STATE and change nothing. -/
def Obligations.RunRequestsAreRefusedInOrder : Prop :=
  (∀ (tag m c0 c1 f : Byte) (s : State), s.handles .runStart tag [m, c0, c1, f] →
      let legal := 1 ≤ m.toNat ∧ m.toNat ≤ 3 ∧ f.toNat ≤ 1
      (¬ legal → exec (.runStart tag [m, c0, c1, f]) s = .next (s.withRefusal .runStart tag .badValue)) ∧
      (legal → s.run.part ≠ .ready →
        exec (.runStart tag [m, c0, c1, f]) s = .next (s.withRefusal .runStart tag .wrongState)) ∧
      (legal → s.run.part = .ready → s.ring.lockout ≠ { thermal := false, supply := false, guard := false } →
        exec (.runStart tag [m, c0, c1, f]) s = .next (s.withRefusal .runStart tag .lockout))) ∧
  (∀ (tag : Byte) (s : State),
      (s.handles .runStop tag [] → s.run.part ≠ .running →
        exec (.runStop tag []) s = .next (s.withRefusal .runStop tag .wrongState)) ∧
      (s.handles .park tag [] → s.run.part ≠ .ready → s.run.part ≠ .running →
        exec (.park tag []) s = .next (s.withRefusal .park tag .wrongState)) ∧
      (s.handles .wake tag [] → s.run.part ≠ .parked →
        exec (.wake tag []) s = .next (s.withRefusal .wake tag .wrongState)) ∧
      (s.handles .sleep tag [] → s.run.part ≠ .ready → s.run.part ≠ .parked →
        exec (.sleep tag []) s = .next (s.withRefusal .sleep tag .wrongState)))

/-- R17, R18, R20, R21: PARK in READY, WAKE in PARKED and in DORMANT, and SLEEP with nothing at work; SLEEP is refused
BUSY while the engine has a slot in hand, a transfer is active, a commit or an erase is in progress, or the sensor
path is busy. -/
def Obligations.ParkWakeAndSleepMoveThePart : Prop :=
  ∀ (tag : Byte) (s : State),
    (s.handles .park tag [] → s.run.part = .ready →
      exec (.park tag []) s =
        .next (State.withDone .park tag .nothing { s with run := { s.run with part := .parked } })) ∧
    (s.handles .wake tag [] → s.run.part = .parked →
      exec (.wake tag []) s =
        .next (State.withDone .wake tag .nothing { s with run := { s.run with part := .ready } })) ∧
    (s.takes 0x0C tag [] → s.run.part = .dormant → s.frames.queue = [] →
      exec (.wake tag []) s = .next (State.withDone .wake tag .nothing { s with
        run := { s.run with part := .waking, wakeReason := some .request, wakeTimer := some 200 }
        travel := { s.travel with motion := none }
        monitor := { s.monitor with
          conversion := some
            { channel := s.monitor.scanPosition, kind := .scan
              resolution := s.line.params.value .adcResolution } } })) ∧
    (s.handles .sleep tag [] → (s.run.part = .ready ∨ s.run.part = .parked) →
      let busy := s.engine.hand ≠ none ∨ s.transfer ≠ none ∨ ¬ s.pathIdle ∨
        ∃ o, s.store.operation = some o ∧ ∀ set, o.kind ≠ .protect set
      (busy → exec (.sleep tag []) s = .next (s.withRefusal .sleep tag .busy)) ∧
      (¬ busy →
        exec (.sleep tag []) s = .next (State.withDone .sleep tag .nothing { s with
          run := { s.run with part := .dormant }
          travel := { s.travel with motion := some 0 }
          monitor := { s.monitor with conversion := none } })))

/-- R12: TRIGGER in a HOST-mode run in RUNNING is one trigger with source HOST and the current position, and its reply
names what became of it; in any other case it is refused WRONG_STATE. -/
def Obligations.HostTriggerRepliesItsOutcome : Prop :=
  ∀ (tag : Byte) (s : State), s.takes RequestKind.trigger.byte tag [] →
    ((s.run.part ≠ .running ∨ ∀ c, s.run.current = some c → c.mode ≠ .host) →
      exec (.trigger tag []) s = .next (s.withRefusal .trigger tag .wrongState)) ∧
    (∀ (c : RunRecord) (o : TriggerOutcome) (t : State),
      s.run.part = .running → s.run.current = some c → c.mode = .host →
      Triggered .host s.travel.position s o t →
        exec (.trigger tag []) s = .next (t.withDone .trigger tag (.trigger o)).ended)

/-- R13, R108, R109: SINGLE in READY with the lockout set empty and the sensor path idle fills the lowest FREE slot,
or under RECLAIM the oldest delivered one, with a frame of no run and replies with slot and frame number; without a
slot it is refused BUSY and SLOT_STARVED is raised; the other refusals change nothing. -/
def Obligations.SingleCapturesOutsideARun : Prop :=
  ∀ (tag : Byte) (s : State), s.handles .single tag [] →
    let clear := s.ring.lockout = { thermal := false, supply := false, guard := false }
    (s.run.part ≠ .ready → exec (.single tag []) s = .next (s.withRefusal .single tag .wrongState)) ∧
    (s.run.part = .ready → ¬ clear → exec (.single tag []) s = .next (s.withRefusal .single tag .lockout)) ∧
    (s.run.part = .ready → clear → ¬ s.pathIdle →
      exec (.single tag []) s = .next (s.withRefusal .single tag .busy)) ∧
    (∀ i, s.run.part = .ready → clear → s.pathIdle → s.lowestFree i →
      exec (.single tag []) s =
        .next ((s.armed i none .single s.travel.position).withDone .single tag (.single i s.frames.nextFrame))) ∧
    (∀ i f, s.run.part = .ready → clear → s.pathIdle → s.oldestDelivered i f →
      exec (.single tag []) s =
        .next (((s.withdrawn i f).armed i none .single s.travel.position).withDone .single tag
          (.single i s.frames.nextFrame)).ended) ∧
    (s.run.part = .ready → clear → s.pathIdle → s.noSlot →
      exec (.single tag []) s =
        .next (State.withRefusal .single tag .busy { s with line := s.line.raise .slotStarved }).ended)

/-- R11, R19, R21: the three timers of the run controller. The interval timer reloads with INTERVAL and one trigger
arrives; the silence timer ends a run in RUNNING with LINK_SILENCE raised, and does nothing else in any other part
state; the wake settle timer makes the part READY and queues STATE_CHANGED with the wake reason. That LINK_SILENCE is
raised before RUN_ENDED is queued, and that the silence timer stays stopped, are the model's (log 22, log 27, DEDUCED).
A run that silence ends with a slot ARMED is in the statement on run ends with an ARMED slot. -/
def Obligations.RunControllerTimersExpire : Prop :=
  ∀ s : State, s.between →
    (∀ (n : Nat) (o : TriggerOutcome) (t : State), s.run.intervalTimer = some n →
      Triggered .interval s.travel.position
        { s with run := { s.run with intervalTimer := some (s.line.params.value .interval) } } o t →
      exec .intervalExpiry s = .next t.ended) ∧
    (∀ n, s.run.silenceTimer = some n →
      let u : State := { s with run := { s.run with silenceTimer := none } }
      (s.run.part ≠ .running → exec .silenceExpiry s = .next u) ∧
      (∀ c, s.run.part = .running → s.run.current = some c → s.pathIdle →
        exec .silenceExpiry s = .next
          (State.closed .silence .parked c { u with line := s.line.raise .linkSilence }).ended) ∧
      (∀ c, s.run.part = .running → s.run.current = some c → ¬ s.pathIdle → s.noneArmed →
        exec .silenceExpiry s = .next
          (State.stopping .silence c { u with line := s.line.raise .linkSilence }).ended)) ∧
    (∀ (n : Nat) (w : WakeReason), s.run.wakeTimer = some n → s.run.wakeReason = some w →
      exec .wakeSettleExpiry s = .next (State.ended { s with
        run := { s.run with part := .ready, wakeTimer := none, wakeReason := none }
        line := { s.line with
          staged := [.stateChanged .ready (match w with | .request => .request | .motion => .motion)] } }))

/-! ## The travel counter (chapter 2) -/

/-- R25: SET_POSITION puts the position and replies with the one before; in STARTUP, DORMANT and WAKING it is refused
WRONG_STATE. Nothing else changes. -/
def Obligations.SetPositionReplacesThePosition : Prop :=
  ∀ (tag b0 b1 b2 b3 : Byte) (s : State),
    (s.handles .setPosition tag [b0, b1, b2, b3] →
      exec (.setPosition tag [b0, b1, b2, b3]) s = .next (State.withDone .setPosition tag
        (.position s.travel.position)
        { s with travel := { s.travel with position := BitVec.ofNat 32 (le4 b0 b1 b2 b3) } })) ∧
    (s.takes RequestKind.setPosition.byte tag [b0, b1, b2, b3] → s.run.part.handles = false →
      exec (.setPosition tag [b0, b1, b2, b3]) s = .next (s.withRefusal .setPosition tag .wrongState))

/-- R22, R27, R28, R31, R32, R34: a change of one phase is a forward or a reverse count; a countdown that it brings to
0 issues a DISTANCE trigger with the position just reached, and in DORMANT the motion counter that reaches
WAKE_DISTANCE wakes the part. R23: a change of both phases at once raises ENCODER_ERROR and moves the phase reference;
nothing else is counted. Levels equal to the reference change nothing. -/
def Obligations.QuadratureChangesAreCounted : Prop :=
  (∀ (a b forward : Bool) (time : Nat) (s : State), s.between →
      (forward = true → isForward (s.travel.refA, s.travel.refB) (a, b)) →
      (forward = false → isForward (a, b) (s.travel.refA, s.travel.refB)) →
        let u := edgeTaken forward a b time s
        (((∀ c, s.travel.countdown = some c → forward = true → 1 < c) ∧
            (∀ n, s.travel.motion = some n → s.run.part = .dormant →
              n + 1 < s.line.params.value .wakeDistance)) →
          exec (.quadratureChange a b time) s = .next u) ∧
        (∀ (c : Nat) (o : TriggerOutcome) (t : State), s.travel.countdown = some c → c ≤ 1 → forward = true →
          s.run.part ≠ .dormant → Triggered .distance u.travel.position u o t →
          exec (.quadratureChange a b time) s = .next t.ended) ∧
        (∀ n, s.run.part = .dormant → s.travel.motion = some n → s.travel.countdown = none →
          s.line.params.value .wakeDistance ≤ n + 1 → s.frames.queue = [] →
          exec (.quadratureChange a b time) s = .next { u with
            run := { s.run with part := .waking, wakeReason := some .motion, wakeTimer := some 200 }
            travel := { u.travel with motion := none }
            monitor := { s.monitor with
              conversion := some
                { channel := s.monitor.scanPosition, kind := .scan
                  resolution := s.line.params.value .adcResolution } } })) ∧
  (∀ (a b : Bool) (time : Nat) (s : State), s.between →
      let u : State := { s with pins := { s.pins with phaseA := a, phaseB := b } }
      (a ≠ s.travel.refA → b ≠ s.travel.refB →
        exec (.quadratureChange a b time) s = .next { u with
          line := (s.line.raise .encoderError).flush
          travel := { s.travel with refA := a, refB := b } }) ∧
      (a = s.travel.refA → b = s.travel.refB → exec (.quadratureChange a b time) s = .next u))

/-- R30: the speed window expires: from 4 edges on the speed is count times COUNT_PITCH over the window's length in
ms, by WINDOW; with fewer, COUNT_PITCH times 1,000 over a known period in µs, by PERIOD, and unchanged without one; at
most 65,535. The window re-arms with SPEED_WINDOW and the count returns to 0. R32: the stall timer expires: speed 0,
STALLED, STALLED; the pulse record is forgotten, the window's count returns to 0, and the timer stays stopped. -/
def Obligations.SpeedIsMeasuredAndStalls : Prop :=
  (∀ s : State, s.between →
      let pitch := s.line.params.value .countPitch
      let w : TravelState :=
        { s.travel with windowLength := s.line.params.value .speedWindow, windowCount := 0 }
      (4 ≤ s.travel.windowCount →
        exec .speedWindowExpiry s = .next { s with travel := { w with
          speed := min 65535 (s.travel.windowCount * pitch / s.travel.windowLength), method := .window } }) ∧
      (s.travel.windowCount < 4 → ∀ p, s.travel.period = some p →
        exec .speedWindowExpiry s = .next { s with travel := { w with
          speed := min 65535 (pitch * 1000 / p), method := .period } }) ∧
      (s.travel.windowCount < 4 → s.travel.period = none →
        exec .speedWindowExpiry s = .next { s with travel := w })) ∧
  (∀ (n : Nat) (s : State), s.between → s.travel.stallTimer = some n →
      exec .stallExpiry s = .next { s with
        travel := { s.travel with
          speed := 0
          method := .stalled
          direction := .stalled
          lastEdge := none
          period := none
          windowCount := 0
          stallTimer := none } })

/-! ## The ring and strobes (chapters 3 and 4) -/

/-- R47 to R50: what each action of SEGMENT_SET makes of the record, and the two refusals; the reply carries the
record as it stands after the change, with its effective ceiling. Nothing else changes. -/
def Obligations.SegmentSetActsOnTheRecord : Prop :=
  ∀ (tag n a v : Byte) (s : State), s.handles .segmentSet tag [n, a, v] →
    (∀ i : Fin 12, n.toNat = i.val →
      let g := s.ring.segments.get i
      (a = 1 →
        (g.state ≠ .faulted → exec (.segmentEnable tag [n, a, v]) s =
          .next (s.segmentAnswered tag i { g with state := .enabled })) ∧
        (g.state = .faulted → exec (.segmentEnable tag [n, a, v]) s =
          .next (s.withRefusal .segmentSet tag .wrongState))) ∧
      (a = 2 →
        (g.state ≠ .faulted → exec (.segmentDisable tag [n, a, v]) s =
          .next (s.segmentAnswered tag i { g with state := .disabled })) ∧
        (g.state = .faulted → exec (.segmentDisable tag [n, a, v]) s = .next (s.segmentAnswered tag i g))) ∧
      (a = 3 →
        (g.state = .faulted → exec (.segmentAdmit tag [n, a, v]) s = .next (s.segmentAnswered tag i
          { g with state := .enabled, health := .untested, weakCount := 0, faultCount := 0 })) ∧
        (g.state ≠ .faulted → exec (.segmentAdmit tag [n, a, v]) s =
          .next (s.withRefusal .segmentSet tag .wrongState))) ∧
      (a = 4 → exec (.segmentCeiling tag [n, a, v]) s =
        .next (s.segmentAnswered tag i { g with hostCeiling := v.toNat }))) ∧
    (∀ c : Instr, a = 1 ∧ c = .segmentEnable tag [n, a, v] ∨ a = 2 ∧ c = .segmentDisable tag [n, a, v] ∨
        a = 3 ∧ c = .segmentAdmit tag [n, a, v] ∨ a = 4 ∧ c = .segmentCeiling tag [n, a, v] →
      12 ≤ n.toNat → exec c s = .next (s.withRefusal .segmentSet tag .badValue)) ∧
    (∀ c : Instr, c = .segmentEnable tag [n, a, v] ∨ c = .segmentDisable tag [n, a, v] ∨
        c = .segmentAdmit tag [n, a, v] ∨ c = .segmentCeiling tag [n, a, v] →
      (a.toNat = 0 ∨ 4 < a.toNat) → exec c s = .next (s.withRefusal .segmentSet tag .badValue))

/-- R56, R58, R61 to R63: a strobe request for the ARMED slot is decided on the lockout set and then on EXCL: the slot
is freed (R57), with what follows from the sensor path becoming idle (R16, R126), or deferred with EXCL_TIMEOUT and
flagged DEFERRED, or its strobe starts. The release of EXCL starts the
strobe of a deferred capture. A request whose slot is no longer ARMED is dropped; EXCL alone changes only its level. -/
def Obligations.StrobeRequestIsDecidedInOrder : Prop :=
  ∀ s : State, s.between →
    (∀ (i : Fin 6) (f : Frame), s.ring.request = some i → s.frames.slots.get i = some f → f.state = .armed →
      s.aloneOnPath i → s.ring.deferral = none →
      let u : State := { s with ring := { s.ring with request := none } }
      let clear := s.ring.lockout = { thermal := false, supply := false, guard := false }
      (¬ clear → exec .strobeRequest s = .next (u.abandoned i f).pathSettled.ended) ∧
      (clear → s.pins.excl = true → exec .strobeRequest s = .next { u with
        ring := { u.ring with
          deferral := some { target := .capture i, timeout := s.line.params.value .exclTimeout } }
        frames := { s.frames with
          slots := s.frames.slots.set i (some { f with flags := { f.flags with deferred := true } }) } }) ∧
      (clear → s.pins.excl = false → exec .strobeRequest s = .next (u.strobed i f).ended)) ∧
    (∀ i : Fin 6, s.ring.request = some i →
      (∀ f, s.frames.slots.get i = some f → f.state ≠ .armed) →
      exec .strobeRequest s = .next { s with ring := { s.ring with request := none } }) ∧
    (∀ (i : Fin 6) (f : Frame) (n : Nat),
      s.ring.deferral = some { target := .capture i, timeout := n } → s.frames.slots.get i = some f →
      exec .exclRelease s =
        .next (State.strobed i f { s with pins := { s.pins with excl := false } }).ended) ∧
    (s.ring.deferral = none →
      exec .exclRelease s = .next { s with pins := { s.pins with excl := false } }) ∧
    exec .exclAsserted s = .next { s with pins := { s.pins with excl := true } }

/-- R39, R40: where a capture strobe starts, no segment is driven above 255, above its host ceiling or above its group
ceiling, one that is not ENABLED is driven at level 0, and the levels sum to the ring budget at most. -/
def Obligations.LevelsStayWithinCeilingsAndBudget : Prop :=
  ∀ (c : Instr) (i : Fin 6) (x : Strobe) (s t : State),
    (c = .strobeRequest ∨ c = .exclRelease) → s.between → s.ring.strobe = none →
    exec c s = .next t → t.ring.strobe = some x → x.target = .capture i →
      t.ring.drives = x.levels ∧ t.ring.lit = true ∧ t.ring.expose = true ∧
      (∀ k : Fin 12,
        x.levels.get k ≤ 255 ∧ x.levels.get k ≤ (s.ring.segments.get k).hostCeiling ∧
          x.levels.get k ≤ groupCeiling (s.monitor.thermalStep.get ⟨k.val / 4, by omega⟩) ∧
          ((s.ring.segments.get k).state ≠ .enabled → x.levels.get k = 0)) ∧
      ((List.finRange 12).map fun k => x.levels.get k).sum ≤ 3060 - 384 * s.monitor.supplyStep

/-- R57, R59, R10, R16, R126: the deferral timer expires while a capture is deferred: the slot is freed, its run counts
it skipped, and EXCLUSION_TIMEOUT is raised; the sensor path is then idle, so that a run in STOPPING closes, a LOADED
bank is swapped in and the pending trigger is served. Without a deferral nothing happens (log 3, DEDUCED). -/
def Obligations.DeferralExpiryAbandonsTheSlot : Prop :=
  ∀ s : State, s.between →
    (∀ (i : Fin 6) (f : Frame) (n : Nat) (t : State),
      s.ring.deferral = some { target := .capture i, timeout := n } → s.frames.slots.get i = some f →
      f.state = .armed → s.aloneOnPath i →
      PendingServed (State.abandoned i f { s with line := s.line.raise .exclusionTimeout }).pathSettled t →
      exec .deferralTimerExpiry s = .next t.ended) ∧
    (s.ring.deferral = none → exec .deferralTimerExpiry s = .next s)

/-- R43 to R46, R65, R76: the mid-strobe point takes each lit segment's health sample once, raises SEGMENT_FAULT and
SEGMENT_WEAK where a count reaches its limit, and for a capture starts the strobe conversion of SUPPLY in place of the
conversion in flight. -/
def Obligations.MidStrobeSamplesTheSegments : Prop :=
  ∀ (q : StrobeSenses) (x : Strobe) (s : State), s.between → s.ring.strobe = some x →
    (x.midPassed = true → exec (.midStrobe q) s = .next s) ∧
    (x.midPassed = false →
      let sample := fun k : Fin 12 =>
        sampleOutcome q (s.line.params.value .checkFraction) (s.line.params.value .shortFraction) (x.levels.get k) k
      let pulse := ∃ i, x.target = .selfTest i
      ∃ (t : State) (segments : Table 12 Segment), exec (.midStrobe q) s = .next t ∧
        (∀ k : Fin 12,
          (pulse → segments.get k = (s.ring.segments.get k).afterPulse (sample k)) ∧
          (¬ pulse → segments.get k = (s.ring.segments.get k).after (sample k))) ∧
        (∀ c : Condition, c ≠ .noticeLost →
          (c.isIn t.line.conditions = true ↔ c.isIn s.line.conditions = true ∨
            c = .segmentFault ∧ (∃ k, (sample k = some .openString ∨ sample k = some .shorted) ∧
              (segments.get k).faultCount = 2) ∨
            c = .segmentWeak ∧ ∃ k, sample k = some .weak ∧ (segments.get k).weakCount = 4)) ∧
        t = { s with
          line := { s.line with conditions := t.line.conditions, outbound := t.line.outbound }
          ring := { s.ring with strobe := some { x with midPassed := true }, segments := segments }
          monitor := t.monitor } ∧
        (pulse → t.monitor = s.monitor) ∧
        (∀ (i : Fin 6) (f : Frame), x.target = .capture i → s.frames.slots.get i = some f →
          t.monitor = { s.monitor with
            conversion := some
              { channel := .supply, kind := .strobe i f.number
                resolution := s.line.params.value .adcResolution } }))

/-- R66, R67: a capture strobe's end makes its slot READING with the ring dark. R67, R52, R71: the guard's expiry darkens
the ring, raises STROBE_OVERRUN and puts GUARD in the lockout set, with what that entry brings: the end of a run in
RUNNING, and of the self-test when the strobe was its pulse; the slot of a capture strobe is READING with the flag CUT.
Without a strobe neither command does anything (R66; log 3, DEDUCED). -/
def Obligations.StrobeEndAndGuardHandTheSlotOver : Prop :=
  ∀ s : State, s.between →
    (s.ring.strobe = none → exec .strobeEnd s = .next s ∧ exec .strobeGuardExpiry s = .next s) ∧
    (∀ (x : Strobe) (i : Fin 6) (f : Frame), s.ring.strobe = some x → x.target = .capture i →
      s.frames.slots.get i = some f → exec .strobeEnd s = .next (s.darkened.reading i f false)) ∧
    (∀ (x : Strobe) (n : Nat), s.ring.strobe = some x → s.ring.guard = some n →
      let u := State.darkened { s with
        line := s.line.raise .strobeOverrun
        ring := { s.ring with lockout := { s.ring.lockout with guard := true } } }
      let entered : State → Prop := fun t =>
        s.ring.lockout.guard = true ∧ t = u ∨
          s.ring.lockout.guard = false ∧ AfterEntry .guard .strobeOverrun u t
      ∀ t, entered t →
        (∀ (i : Fin 6) (f : Frame), x.target = .capture i → s.frames.slots.get i = some f → f.state = .exposing →
          exec .strobeGuardExpiry s = .next (t.reading i f true).ended) ∧
        (∀ k : Fin 12, x.target = .selfTest k → exec .strobeGuardExpiry s = .next t.ended))

/-- R3, R4, R58, R59, R71, R148: the end of the store's scan judges every area and the control record, and goes on to
the self-test. With a reason in the lockout set, or no further ENABLED segment, the part is READY; else the next
ENABLED segment is pulsed, or deferred while EXCL is asserted. The end of a pulse goes on to the next segment, and so
does the expiry of a deferral, with EXCLUSION_TIMEOUT raised; the release of EXCL fires a deferred pulse. That
STORE_SCAN_COMPLETE with no scan in progress changes nothing is the model's (log 3, DEDUCED). What cuts a lit pulse, or
ends the self-test while one is deferred, is in the statements on the guard and on rest readings. -/
def Obligations.ScanAndSelfTestLeadToReady : Prop :=
  ∀ s : State, s.between →
    let clear := s.ring.lockout = { thermal := false, supply := false, guard := false }
    let enabled : Fin 12 → Prop := fun k => (s.ring.segments.get k).state = .enabled
    let ready : State → State := fun u => u.startedUp.ended
    let pulsed : Fin 12 → State → State := fun i u => State.ended { u with
      run := { u.run with selfTest := some i }
      ring := { u.ring with
        segments := u.ring.segments.set i
          { u.ring.segments.get i with strobeCount := (u.ring.segments.get i).strobeCount + 1 }
        deferral := none
        strobe := some
          { target := .selfTest i, duration := 100, levels := (Table.fill 12 0).set i 64, midPassed := false }
        guard := some 125
        drives := (Table.fill 12 0).set i 64
        lit := true
        expose := false } }
    let held : Fin 12 → State → State := fun i u => State.ended { u with
      run := { u.run with selfTest := some i }
      ring := { u.ring with
        deferral := some { target := .selfTest i, timeout := s.line.params.value .exclTimeout } } }
    let goesOn : Instr → Nat → State → Prop := fun c k u =>
      ((∀ i : Fin 12, k ≤ i.val → ¬ enabled i) → exec c s = .next (ready u)) ∧
      ∀ i : Fin 12, k ≤ i.val → enabled i → (∀ j : Fin 12, k ≤ j.val → j < i → ¬ enabled j) →
        (¬ clear → exec c s = .next (ready u)) ∧
        (clear → s.pins.excl = false → exec c s = .next (pulsed i u)) ∧
        (clear → s.pins.excl = true → exec c s = .next (held i u))
    (s.store.scanning = true →
      ∃ entries : Table 16 DirEntry,
        ((∀ i, (s.store.areas.get i).mem.wf = true) → ∀ i, s.store.scans i (entries.get i)) ∧
        goesOn .storeScanComplete 0 { s with
          store := { s.store with
            scanning := false
            directory := entries
            protectSet := match s.store.control with | .erased => 0 | .good set => set | .bad => 0xFFFF }
          line := if s.store.control = .bad then s.line.raise .storeError else s.line }) ∧
    (s.store.scanning = false → exec .storeScanComplete s = .next s) ∧
    (∀ (x : Strobe) (i : Fin 12), s.ring.strobe = some x → x.target = .selfTest i → s.run.selfTest ≠ none →
      goesOn .strobeEnd (i.val + 1) s.darkened) ∧
    (∀ (i : Fin 12) (n : Nat), s.ring.deferral = some { target := .selfTest i, timeout := n } →
      goesOn .deferralTimerExpiry (i.val + 1) { s with
        ring := { s.ring with deferral := none }
        line := s.line.raise .exclusionTimeout }) ∧
    (∀ (i : Fin 12) (n : Nat), s.ring.deferral = some { target := .selfTest i, timeout := n } →
      s.run.selfTest = some i →
      exec .exclRelease s = .next (pulsed i { s with pins := { s.pins with excl := false } }))

/-! ## The supply monitor (chapter 5) -/

/-- R74, R75, R80, R82 to R84, R52, R53, R69: a scan conversion's result becomes the rest reading of its channel and
goes through the channel's tests, and the conversion of the next channel starts. A second low reading in a row, and a
ring temperature at the trip level, raise SUPPLY_LOW and THERMAL_TRIP and enter the lockout set, with all that an entry
brings: a deferral ended (R60), a strobe cut by THERMAL (R69), the run ended (R14 to R16), the self-test ended (R71; a
pulse that SUPPLY finds lit goes on, log 14). A reason leaves the set when its flag is clear and its cause has ended;
that a thermistor without a reading keeps THERMAL in it is the model's (log 28, DEDUCED). The °C of the thermistor curve
is an operand (log 10). -/
def Obligations.RestReadingsGoThroughTheirTests : Prop :=
  ∀ (code res : Nat) (celsius : Int) (channel : Channel) (s : State),
    s.between → s.monitor.conversion = some { channel := channel, kind := .scan, resolution := res } →
    code < 2 ^ res → -40 ≤ celsius → celsius ≤ 150 →
      let v : Int :=
        match channel with
        | .supply => ((code * 320 / 2 ^ res : Nat) : Int)
        | .ref => ((code * 3300 / 2 ^ res : Nat) : Int)
        | .ringT0 | .ringT1 | .ringT2 | .boardT => celsius
      let next : Channel :=
        match channel with
        | .supply => .ringT0 | .ringT0 => .ringT1 | .ringT1 => .ringT2 | .ringT2 => .boardT | .boardT => .ref
        | .ref => .supply
      let m : MonitorState := { s.monitor with
        rest := s.monitor.rest.set channel.index (some v)
        lastResolution := some res
        scanPosition := next
        conversion := some
          { channel := next, kind := .scan, resolution := s.line.params.value .adcResolution } }
      let r : State → Prop := fun t => exec (.scanConversionEnd code celsius) s = .next t
      ((channel = .boardT ∨ channel = .ref) → r { s with monitor := m }) ∧
      (channel = .supply →
        let threshold : Int := 150 + 10 * (s.line.params.value .supplyLowLevel : Int)
        let low := { m with lowStreak := 0 }
        let raised : State := { s with monitor := low, line := s.line.raise .supplyLow }
        let entered : State := { raised with ring := { s.ring with lockout := { s.ring.lockout with supply := true } } }
        (threshold ≤ v → r { s with
          monitor := low
          ring := { s.ring with lockout := { s.ring.lockout with
            supply := s.ring.lockout.supply &&
              (s.line.conditions.getLsbD 7 || decide (v < threshold + 10)) } } }) ∧
        (v < threshold → s.monitor.lowStreak = 0 → r { s with monitor := { m with lowStreak := 1 } }) ∧
        (v < threshold → s.monitor.lowStreak ≠ 0 →
          (s.ring.lockout.supply = true → r raised.ended) ∧
          (∀ t, s.ring.lockout.supply = false → AfterEntry .supply .supplyLow entered t → r t.ended))) ∧
      (∀ g : Fin 3, channel = .ringT0 ∧ g = 0 ∨ channel = .ringT1 ∧ g = 1 ∨ channel = .ringT2 ∧ g = 2 →
        let start : Int := (s.line.params.value .thermalDerateStart : Int)
        let trip := s.line.params.value .thermalTripLevel
        let step : Nat := if v < start then 0 else min 6 (((v - start) / 2).toNat + 1)
        let derated : State := { s with
          monitor := { m with thermalStep := m.thermalStep.set g step }
          line :=
            if s.monitor.thermalStep.get g = 0 ∧ 0 < step then s.line.raise .thermalDerate else s.line }
        let raised : State := { derated with line := derated.line.raise .thermalTrip }
        let entered : State := { raised with ring := { s.ring with lockout := { s.ring.lockout with thermal := true } } }
        (v < (trip : Int) →
          ((s.line.conditions.getLsbD 9 = true ∨ ¬ m.cooled trip) → r derated.ended) ∧
          (s.line.conditions.getLsbD 9 = false → m.cooled trip → r (State.ended { derated with
            ring := { s.ring with lockout := { s.ring.lockout with thermal := false } } }))) ∧
        ((trip : Int) ≤ v →
          (s.ring.lockout.thermal = true → r raised.ended) ∧
          (∀ t, s.ring.lockout.thermal = false → AfterEntry .thermal .thermalTrip entered t → r t.ended)))

/-- R77, R78: a strobe conversion's result is the last strobe reading with its frame number. Below the DROOP_LEVEL
threshold it flags the frame DROOP, raises SUPPLY_DROOP, and raises the supply derate step, at most to 6; otherwise
the sixteenth reading in a row lowers the step. The scan then goes on at the scan position. -/
def Obligations.StrobeReadingsMoveTheSupplyStep : Prop :=
  ∀ (code res n : Nat) (i : Fin 6) (f : Frame) (s : State),
    s.between → s.monitor.conversion = some { channel := .supply, kind := .strobe i n, resolution := res } →
    code < 2 ^ res → s.frames.slots.get i = some f → f.number = n →
      let v := code * 320 / 2 ^ res
      let m : MonitorState := { s.monitor with
        lastStrobe := some (v, n)
        lastResolution := some res
        conversion := some
          { channel := s.monitor.scanPosition, kind := .scan, resolution := s.line.params.value .adcResolution } }
      (v < 150 + 10 * s.line.params.value .droopLevel →
        exec (.strobeConversionEnd code) s = .next (State.ended { s with
          monitor := { m with supplyStep := min 6 (s.monitor.supplyStep + 1), droopFree := 0 }
          frames := { s.frames with
            slots := s.frames.slots.set i (some { f with flags := { f.flags with droop := true } }) }
          line := s.line.raise .supplyDroop })) ∧
      (150 + 10 * s.line.params.value .droopLevel ≤ v →
        exec (.strobeConversionEnd code) s = .next { s with
          monitor :=
            if s.monitor.droopFree + 1 < 16 then { m with droopFree := s.monitor.droopFree + 1 }
            else { m with droopFree := 0, supplyStep := s.monitor.supplyStep - 1 } })

/-! ## The balance loop, the frame store and the sensor port (chapters 6 and 7) -/

/-- R96, R99 to R101: BALANCE_HOLD holds, BALANCE_RELEASE returns a held loop to SETTLING with the count at 0 and is
refused WRONG_STATE in every other state, and BALANCE_RESTART enters COLD, refills the twelve energies from the
CURRENT bank's start levels times STROBE_MAX and makes the frame EXPOSING or READING stale. Nothing else changes. -/
def Obligations.BalanceRequestsSetTheState : Prop :=
  ∀ (tag : Byte) (s : State),
    (s.handles .balanceHold tag [] → exec (.balanceHold tag []) s =
      .next (State.withDone .balanceHold tag .nothing
        { s with balance := { s.balance with state := .held } })) ∧
    (s.handles .balanceRelease tag [] →
      (s.balance.state = .held → exec (.balanceRelease tag []) s =
        .next (State.withDone .balanceRelease tag .nothing
          { s with balance := { s.balance with state := .settling, settle := 0 } })) ∧
      (s.balance.state ≠ .held → exec (.balanceRelease tag []) s =
        .next (s.withRefusal .balanceRelease tag .wrongState))) ∧
    (∀ (w : BankId) (p : Profile), s.handles .balanceRestart tag [] → (s.engine.bank w).state = .current →
      (s.engine.bank w.other).state ≠ .current → (s.engine.bank w).contents = some p →
      ∃ stale : Option Nat,
        exec (.balanceRestart tag []) s = .next (State.withDone .balanceRestart tag .nothing { s with
          balance := { s.balance with
            state := .cold
            settle := 0
            energies := p.startLevels.map fun level => level * s.line.params.value .strobeMax
            stale := stale } }) ∧
        ((∀ (i : Fin 6) (f : Frame), s.frames.slots.get i = some f → f.state ≠ .exposing ∧ f.state ≠ .reading) →
          stale = none) ∧
        (∀ (i : Fin 6) (f : Frame), s.frames.slots.get i = some f → (f.state = .exposing ∨ f.state = .reading) →
          (∀ (j : Fin 6) (g : Frame), j ≠ i → s.frames.slots.get j = some g → g.state.onSensorPath = false) →
          stale = some f.number))

/-- R111, R113, R115: the sensor port with a slot READING: frame-start begins the reception, a line is stored, counted
and its green samples gathered by zone, and a frame-start while receiving, a frame-end without 1,024 whole lines and
the readout limit end the readout in a sensor frame error: the slot is freed and its run counts it skipped; the sensor
path is then idle, so that a run in STOPPING closes (R16), a LOADED bank is swapped in (R126) and the pending trigger is
served (R10). Without a slot READING the stream is ignored; that READOUT_LIMIT_EXPIRY then changes nothing is the model's
(log 3, DEDUCED). -/
def Obligations.SensorPortFollowsTheReadout : Prop :=
  ∀ s : State, s.between →
    ((∀ (i : Fin 6) (f : Frame), s.frames.slots.get i = some f → f.state ≠ .reading) →
      ∀ samples : List (BitVec 10),
        exec .sensorFrameStart s = .next s ∧ exec (.sensorLine samples) s = .next s ∧
        exec .sensorFrameEnd s = .next s ∧ exec .readoutLimitExpiry s = .next s) ∧
    (∀ (i : Fin 6) (f : Frame), s.frames.slots.get i = some f → f.state = .reading →
      s.aloneOnPath i →
      let u := State.freed i f { s with
        line := s.line.raise .sensorFrameError
        frames := { s.frames with port := .idle, readoutLimit := none } }
      let failed : Instr → Prop := fun c => ∀ t, PendingServed u.pathSettled t → exec c s = .next t.ended
      (s.frames.port = .waiting →
        exec .sensorFrameStart s = .next { s with frames := { s.frames with port := .receiving 0 false } } ∧
        (∀ samples, exec (.sensorLine samples) s = .next s) ∧
        failed .sensorFrameEnd) ∧
      (∀ n, s.frames.readoutLimit = some n → failed .readoutLimitExpiry) ∧
      (∀ (n : Nat) (flagged : Bool), s.frames.port = .receiving n flagged →
        failed .sensorFrameStart ∧
        ((n ≠ 1024 ∨ flagged = true) → failed .sensorFrameEnd) ∧
        (∀ samples : List (BitVec 10),
          let port := Port.receiving (n + 1) (flagged || decide (samples.length ≠ 1280))
          (1024 ≤ n → exec (.sensorLine samples) s = .next { s with frames := { s.frames with port := port } }) ∧
          (∀ (p : Profile) (old : Table 48 ZoneStat), n < 1024 → (s.engine.bank f.bank).contents = some p →
            f.stats = some old →
            ∃ new : Table 48 ZoneStat,
              exec (.sensorLine samples) s = .next { s with frames := { s.frames with
                port := port
                slots := s.frames.slots.set i
                  (some { f with raw := f.raw ++ [samples.take 1280], stats := some new }) } } ∧
              ∀ z : Fin 48,
                let gathered := (List.range (min samples.length 1280)).filter fun x =>
                  decide (x % 2 = n % 2) && decide (p.geometry.zoneOfSample x n = some z)
                let values := gathered.map fun x => (samples.getD x 0).toNat
                (new.get z).samples = (old.get z).samples + gathered.length ∧
                (new.get z).sum = (old.get z).sum + values.sum ∧
                (new.get z).clipped = (old.get z).clipped + values.countP fun v => decide (1020 ≤ v)))))

/-- R89, R114, R116, R128, R14, R16, R126, R10: a correct readout: the frame is analysed in the one of R89's three cases
that applies, its gains go into the slot, the idle engine takes it or it joins the correction queue, and its run counts
it captured. Reaching the requested count ends the run with COUNT_REACHED. The sensor path is then idle, so that a run
in STOPPING closes, a LOADED bank is swapped in and the pending trigger is served. -/
def Obligations.CorrectReadoutIsAnalysedAndTaken : Prop :=
  ∀ (i : Fin 6) (f : Frame) (p : Profile) (d : StrobeData) (s : State),
    s.between → s.frames.slots.get i = some f → f.state = .reading → s.aloneOnPath i →
    s.frames.port = .receiving 1024 false →
    (s.engine.hand = none → s.frames.queue = [] ∧ s.run.part ≠ .dormant) →
    (s.engine.bank f.bank).contents = some p → f.strobe = some d →
      let u : Table 48 Nat → BalanceUnit → LineState → State := fun gains balance line => { s with
        frames := { s.frames with
          slots := s.frames.slots.set i (some { f with
            state := if s.engine.hand = none then .correcting else .waiting
            gains := some gains })
          queue := if s.engine.hand = none then [] else s.frames.queue ++ [i]
          port := .idle
          readoutLimit := none }
        engine := { s.engine with hand := if s.engine.hand = none then some (i, 0) else s.engine.hand }
        balance := balance
        line := line }
      let answers : State → Prop := fun v =>
        ∀ t, PendingServed (v.captureCounted f).pathSettled t → exec .sensorFrameEnd s = .next t.ended
      let m := s.zoneMapOf f
      let gains := m.zones.map ZoneRecord.gain
      let stale := if s.balance.stale = some f.number then none else s.balance.stale
      let mapped : BalanceUnit := { s.balance with
        zoneMap := some m
        verdicts := some (Table.ofFn fun g =>
          verdictOf (s.line.params.value .stepLimit) (s.ring.segments.get g) (ratioOf p m.zones g)) }
      (f.flags.cut = true →
        answers (u (Table.fill 48 256) { s.balance with stale := stale } s.line)) ∧
      (f.flags.cut = false → (s.balance.stale = some f.number ∨ s.balance.state = .held) →
        answers (u gains { mapped with stale := stale } s.line)) ∧
      (f.flags.cut = false → s.balance.stale ≠ some f.number → s.balance.state ≠ .held →
        ∃ (state : BalanceState) (settle : Nat),
          answers (u gains
            { mapped with
              energies := Table.ofFn fun g =>
                if (s.ring.segments.get g).state = .enabled then
                  revisedEnergy (ratioOf p m.zones g) (s.line.params.value .stepLimit) (d.levels.get g) d.duration
                else s.balance.energies.get g
              state := state
              settle := settle }
            (if state = .saturated ∧ s.balance.state ≠ .saturated then s.line.raise .balanceSaturated
              else s.line)) ∧
          ({ state := state, settle := settle } : Standings) =
            Standings.judge (saturatedFrame (s.line.params.value .settleBand) (s.judgedSegments f m))
              ((s.judgedSegments f m).any Judged.observed)
              (inBandFrame (s.line.params.value .settleBand) (s.judgedSegments f m))
              { state := s.balance.state, settle := s.balance.settle })

/-- R90 to R95: the zone map of a frame; the measures, the class and the residual gain of a zone; the sums of a segment's
ratio; the new energy request; and the verdict of a segment. R97: which segments are judged, which frame is saturated and
which is in band. R97, R98: the judgment of the balance state, for every state it is made in. -/
def Obligations.AnalysisFollowsTheFormulas : Prop :=
  ((∀ (params : ParamTable) (p : Profile) (stats : Table 48 ZoneStat) (z : Fin 48),
      let x := stats.get z
      let r := zoneRecord params p stats z
      let unlit := ∀ g : Fin 12, (p.influence.get z).get g = 0
      let glare := params.value .glareFraction ≤ 100 * x.clipped / x.samples
      let dark := x.sum / x.samples < params.value .voidLevel
      r.samples = x.samples ∧
      r.mean = (if x.samples = 0 then none else some (x.sum / x.samples)) ∧
      r.clipped = (if x.samples = 0 then none else some (100 * x.clipped / x.samples)) ∧
      (z.val < 12 → r.target = params.value .targetRing0) ∧
      (12 ≤ z.val → z.val < 24 → r.target = params.value .targetRing1) ∧
      (24 ≤ z.val → z.val < 36 → r.target = params.value .targetRing2) ∧
      (36 ≤ z.val → r.target = params.value .targetRing3) ∧
      (unlit → r.cls = .unlit) ∧ (¬ unlit → x.samples = 0 → r.cls = .void) ∧
      (¬ unlit → x.samples ≠ 0 → glare → r.cls = .glare) ∧
      (¬ unlit → x.samples ≠ 0 → ¬ glare → dark → r.cls = .void) ∧
      (¬ unlit → x.samples ≠ 0 → ¬ glare → ¬ dark → r.cls = .normal) ∧
      (r.cls ≠ .normal → r.gain = 256) ∧
      (r.cls = .normal → x.sum / x.samples = 0 → r.gain = 1024) ∧
      (r.cls = .normal → x.sum / x.samples ≠ 0 →
        r.gain = max 128 (min 1024 (r.target * 256 / (x.sum / x.samples))))) ∧
    (∀ (p : Profile) (zones : Table 48 ZoneRecord) (g : Fin 12),
      let weight := fun z : Fin 48 => (p.influence.get z).get g
      let seen := (List.finRange 48).filter fun z => decide ((zones.get z).cls = .normal) && decide (0 < weight z)
      (ratioOf p zones g).numerator = (seen.map fun z => weight z * (zones.get z).target).sum ∧
      (ratioOf p zones g).denominator = (seen.map fun z => weight z * (zones.get z).mean.getD 0).sum ∧
      ((ratioOf p zones g).observed = true ↔ seen ≠ [] ∧ 0 < (ratioOf p zones g).denominator)) ∧
    (∀ (r : Ratio) (limit level d : Nat),
      let base := if level = 0 then d else level * d
      (r.observed = false → revisedEnergy r limit level d = min 1020000 base) ∧
      (r.observed = true → (100 + limit) * r.denominator < 100 * r.numerator →
        revisedEnergy r limit level d = min 1020000 (base * (100 + limit) / 100)) ∧
      (r.observed = true → 100 * r.numerator ≤ (100 + limit) * r.denominator →
        (100 + limit) * r.numerator < 100 * r.denominator →
        revisedEnergy r limit level d = min 1020000 (base * 100 / (100 + limit))) ∧
      (r.observed = true → 100 * r.numerator ≤ (100 + limit) * r.denominator →
        100 * r.denominator ≤ (100 + limit) * r.numerator →
        revisedEnergy r limit level d = min 1020000 (base * r.numerator / r.denominator)))) ∧
  (∀ (f : Frame) (p : Profile) (stats : Table 48 ZoneStat) (id : Nat) (s : State),
    (s.engine.bank f.bank).contents = some p → (s.engine.bank f.bank).profileId = some id → f.stats = some stats →
      let m := s.zoneMapOf f
      m.frame = f.number ∧ m.bank = f.bank ∧ m.profileId = id ∧
        ∀ z, m.zones.get z = zoneRecord s.line.params p stats z) ∧
  (∀ (limit : Nat) (g : Segment) (r : Ratio),
    (g.state = .enabled → verdictOf limit g r =
      { standing := if r.observed then .observed else .unobserved
        ratio := some (if r.observed then min 65535 (1000 * r.numerator / r.denominator) else 1000)
        clamped := some (r.observed && (decide ((100 + limit) * r.denominator < 100 * r.numerator) ||
          decide ((100 + limit) * r.numerator < 100 * r.denominator)))
        saturatedLast := g.saturatedLast }) ∧
    (g.state ≠ .enabled → verdictOf limit g r =
      { standing := .notEnabled, ratio := none, clamped := none, saturatedLast := g.saturatedLast })) ∧
  (∀ (band : Nat) (f : Frame) (p : Profile) (m : ZoneMap) (s : State), (s.engine.bank f.bank).contents = some p →
    let judged := s.judgedSegments f m
    let ratio := fun g : Fin 12 => ratioOf p m.zones g
    let seen := fun g : Fin 12 => (s.ring.segments.get g).state = .enabled ∧ (ratio g).observed = true
    (judged.any Judged.observed = true ↔ ∃ g, seen g) ∧
    (saturatedFrame band judged = true ↔ ∃ g, seen g ∧ (s.ring.segments.get g).saturatedLast = true ∧
      (100 + band) * (ratio g).denominator < 100 * (ratio g).numerator) ∧
    (inBandFrame band judged = true ↔ ∀ g, seen g →
      100 * (ratio g).denominator ≤ 100 * (ratio g).numerator + band * (ratio g).denominator ∧
      100 * (ratio g).numerator ≤ (100 + band) * (ratio g).denominator)) ∧
  (∀ (saturated observed inBand : Bool) (state : BalanceState) (n : Nat), state ≠ .held →
      let j := Standings.judge saturated observed inBand { state := state, settle := n }
      let first := if state = .cold ∨ state = .saturated then BalanceState.settling else state
      (saturated = true → state ≠ .saturated → j = { state := .saturated, settle := 0 }) ∧
      (saturated = true → state = .saturated → j = { state := .saturated, settle := n }) ∧
      (saturated = false → observed = false → j = { state := first, settle := n }) ∧
      (saturated = false → observed = true → inBand = false → j = { state := .settling, settle := 0 }) ∧
      (saturated = false → observed = true → inBand = true →
        (first = .settling → n + 1 < 3 → j = { state := .settling, settle := n + 1 }) ∧
        (first = .settling → 3 ≤ n + 1 → j = { state := .settled, settle := 3 }) ∧
        (first = .settled → j = { state := .settled, settle := n })))

/-- R117, R118: RELEASE_FRAME by the state of the slot it names; its refusals change nothing. -/
def Obligations.ReleaseFrameActsByTheSlotState : Prop :=
  ∀ (tag n b0 b1 b2 b3 : Byte) (s : State),
    let c := Instr.releaseFrame tag [n, b0, b1, b2, b3]
    let number := le4 b0 b1 b2 b3
    (s.takes RequestKind.releaseFrame.byte tag [n, b0, b1, b2, b3] → s.run.part.handles = false →
      exec c s = .next (s.withRefusal .releaseFrame tag .wrongState)) ∧
    (s.handles .releaseFrame tag [n, b0, b1, b2, b3] →
      (6 ≤ n.toNat → exec c s = .next (s.withRefusal .releaseFrame tag .badValue)) ∧
      ∀ i : Fin 6, n.toNat = i.val →
        ((∀ f, s.frames.slots.get i = some f → f.number ≠ number) →
          exec c s = .next (s.withRefusal .releaseFrame tag .stale)) ∧
        ∀ f, s.frames.slots.get i = some f → f.number = number →
          ((f.state = .armed ∨ f.state = .exposing ∨ f.state = .reading ∨ f.state = .sending) →
            exec c s = .next (s.withRefusal .releaseFrame tag .busy)) ∧
          (f.state = .waiting → exec c s = .next (State.withDone .releaseFrame tag (.release .freed) { s with
            frames := { s.frames with
              slots := s.frames.slots.set i none
              queue := s.frames.queue.filter fun j => decide (j ≠ i) }
            engine := s.engine.released f.bank })) ∧
          (f.state = .correcting → exec c s =
            .next (State.withDone .releaseFrame tag (.release .abandonPending) { s with
              frames := { s.frames with slots := s.frames.slots.set i (some { f with abandon := true }) } })) ∧
          ((f.state = .ready ∨ f.state = .held ∨ f.state = .sent) → exec c s =
            .next (State.withDone .releaseFrame tag (.release .freed) { s with
              frames := { s.frames with slots := s.frames.slots.set i none } })))

/-! ## Correction and picture transfer (chapters 8 and 9) -/

/-- R132, R119, R128: a tile's completion writes and counts the tile; the engine goes on to the next tile, or frees an
abandoned frame, or makes the frame READY and announces it, and then takes the head of the correction queue. -/
def Obligations.TileCompletionGoesOnOrEndsTheFrame : Prop :=
  ∀ (i : Fin 6) (n : Nat) (f : Frame) (p : Profile) (s : State), s.between → s.engine.hand = some (i, n) →
    s.frames.slots.get i = some f → (s.engine.bank f.bank).contents = some p → s.run.part ≠ .dormant →
    let g : Frame := { f with
      tiles := f.tiles ++ [f.tile p n]
      tilesDone := f.tilesDone + 1
      flags := { f.flags with partialPicture := f.flags.partialPicture || p.tileIsPartial n } }
    let freedEngine := { s.engine.released f.bank with hand := none }
    let announced := { s.line with staged := s.line.staged ++ [.frameReady
      { slot := i, number := f.number, run := f.run, source := f.source, position := f.position,
        speed := (f.strobe.map StrobeData.speed).getD 0, duration := (f.strobe.map StrobeData.duration).getD 0,
        profileId := f.profileId, flags := g.flags }] }
    let next : Option Frame → LineState → State → Prop := fun o line t =>
      (s.frames.queue = [] → t = { s with
        frames := { s.frames with slots := s.frames.slots.set i o }
        engine := freedEngine
        line := line }) ∧
      (∀ (j : Fin 6) (rest : List (Fin 6)) (h : Frame), s.frames.queue = j :: rest → j ≠ i →
        s.frames.slots.get j = some h → t = { s with
          frames := { s.frames with
            slots := (s.frames.slots.set i o).set j (some { h with state := .correcting })
            queue := rest }
          engine := { freedEngine with hand := some (j, 0) }
          line := line })
    (f.abandon = false → n ≠ 191 → exec .tileCompletion s = .next { s with
      frames := { s.frames with slots := s.frames.slots.set i (some g) }
      engine := { s.engine with hand := some (i, n + 1) } }) ∧
    (f.abandon = true → f.state = .correcting →
      ∃ t, exec .tileCompletion s = .next t ∧ next none s.line t) ∧
    (f.abandon = false → n = 191 →
      ∃ t, exec .tileCompletion s = .next t.ended ∧ next (some { g with state := .ready }) announced t)

/-- R129 to R131: each pixel of a tile, row by row: its source point weighted from the four mesh points, black outside
the raw frame, and otherwise the cell's colour under the zone's gain. -/
def Obligations.TilePixelsFollowMeshColourAndGain : Prop :=
  ∀ (f : Frame) (p : Profile) (n u v : Nat), n < 192 → u < 64 → v < 64 →
    let corner := fun i j : Nat => (p.mesh.get (Fin.ofNat 13 (n / 16 + i))).get (Fin.ofNat 17 (n % 16 + j))
    let weigh : (MeshPoint → Int) → Int := fun a =>
      Int.fdiv ((64 - (u : Int)) * (64 - (v : Int)) * a (corner 0 0) + (u : Int) * (64 - (v : Int)) * a (corner 0 1) +
        (64 - (u : Int)) * (v : Int) * a (corner 1 0) + (u : Int) * (v : Int) * a (corner 1 1)) 4096
    let x := weigh MeshPoint.x
    let y := weigh MeshPoint.y
    let inside := 0 ≤ x ∧ x < 20480 ∧ 0 ≤ y ∧ y < 16384
    let column := x.toNat / 16
    let line := y.toNat / 16
    let sample := fun a b : Nat => ((f.raw.getD b []).getD a 0).toNat
    let left := 2 * (column / 2)
    let top := 2 * (line / 2)
    let green :=
      if column % 2 = line % 2 then sample column line else (sample left top + sample (left + 1) (top + 1)) / 2
    let z := p.geometry.zoneOfPoint x y
    let gain := max 64 (min 2048 (p.shading.get z * (f.gains.getD (Table.fill 48 256)).get z / 256))
    let out := fun c : Nat => BitVec.ofNat 8 (min 255 (c * gain / 1024))
    (f.tile p n).length = 4096 ∧
    (¬ inside → (f.tile p n)[64 * v + u]? = some { red := 0, green := 0, blue := 0 }) ∧
    (inside → (f.tile p n)[64 * v + u]? =
      some { red := out (sample (left + 1) top), green := out green, blue := out (sample left (top + 1)) })

/-- R137 to R139: TRANSFER_GRANT's five tests in order, the transfer it starts for a READY, HELD or SENT slot, and the
credits it adds, up to 64, for the SENDING one. Nothing else changes. -/
def Obligations.TransferGrantStartsOrAddsCredits : Prop :=
  ∀ (tag n b0 b1 b2 b3 start cr : Byte) (s : State),
    let c := Instr.transferGrant tag [n, b0, b1, b2, b3, start, cr]
    let number := le4 b0 b1 b2 b3
    let legal := n.toNat < 6 ∧ (start.toNat ≤ 191 ∨ start.toNat = 255) ∧ 1 ≤ cr.toNat ∧ cr.toNat ≤ 32
    let no : Reason → Prop := fun r => exec c s = .next (s.withRefusal .transferGrant tag r)
    (s.takes RequestKind.transferGrant.byte tag [n, b0, b1, b2, b3, start, cr] → s.run.part.handles = false →
      no .wrongState) ∧
    (s.handles .transferGrant tag [n, b0, b1, b2, b3, start, cr] →
      (¬ legal → no .badValue) ∧
      ∀ i : Fin 6, n.toNat = i.val → legal →
        let others := ∃ (j : Fin 6) (g : Frame), j ≠ i ∧ s.frames.slots.get j = some g ∧ g.state = .sending
        ((∀ f, s.frames.slots.get i = some f → f.number ≠ number) → no .stale) ∧
        ∀ f, s.frames.slots.get i = some f → f.number = number →
          (f.state ≠ .ready → f.state ≠ .held → f.state ≠ .sent → f.state ≠ .sending → no .wrongState) ∧
          ((f.state = .ready ∨ f.state = .held ∨ f.state = .sent ∨ f.state = .sending) → others → no .busy) ∧
          ((f.state = .ready ∨ f.state = .held ∨ f.state = .sent) → ¬ others →
            let first := if start.toNat ≤ 191 then start.toNat else if f.state = .held then f.nextUnsent else 0
            exec c s = .next (State.withDone .transferGrant tag (.grant cr.toNat first) { s with
              frames := { s.frames with
                slots := s.frames.slots.set i (some { f with state := .sending, nextUnsent := first }) }
              transfer := some { slot := i, frame := f.number, credits := cr.toNat, onLine := none } })) ∧
          (∀ r, f.state = .sending → ¬ others → s.transfer = some r →
            let next := if r.onLine = none then f.nextUnsent else f.nextUnsent + 1
            let sum := min 64 (r.credits + cr.toNat)
            ((start.toNat = 255 ∨ start.toNat = next) →
              exec c s = .next (State.withDone .transferGrant tag (.grant sum f.nextUnsent)
                { s with transfer := some { r with credits := sum } })) ∧
            (start.toNat ≠ 255 → start.toNat ≠ next → no .badValue)))

/-- R143, R141, R142: TRANSFER_STOP's tests in order; with no tile on the line it takes effect at once; with a tile on
the line the decoder waits, and the stop takes effect in that tile's completion, on the slot as the end of the
transfer leaves it. -/
def Obligations.TransferStopTakesEffectAtATileBoundary : Prop :=
  (∀ (tag n b0 b1 b2 b3 a : Byte) (c : Instr) (release : Bool) (s : State),
    let body := [n, b0, b1, b2, b3, a]
    s.handles .transferStop tag body →
    let no : Reason → Prop := fun r => exec c s = .next (s.withRefusal .transferStop tag r)
    (a = 1 ∧ c = .transferStopKeep tag body ∧ release = false ∨
      a = 2 ∧ c = .transferStopRelease tag body ∧ release = true) →
      (6 ≤ n.toNat → no .badValue) ∧
      ∀ i : Fin 6, n.toNat = i.val →
        ((∀ f, s.frames.slots.get i = some f → f.number ≠ le4 b0 b1 b2 b3) → no .stale) ∧
        ∀ f, s.frames.slots.get i = some f → f.number = le4 b0 b1 b2 b3 →
          (f.state ≠ .sending → no .wrongState) ∧
          (∀ r, f.state = .sending → s.transfer = some r →
            (r.onLine = none → exec c s = .next (State.withDone .transferStop tag
              (if release then .stop none none else .stop (some .held) (some f.nextUnsent))
              { s with
                frames := { s.frames with
                  slots := s.frames.slots.set i (if release then none else some { f with state := .held }) }
                transfer := none })) ∧
            (r.onLine ≠ none → exec c s = .next { s with
              line := { s.line with
                inbound := s.line.inbound.tail
                inHand := some { kind := 0x19, tag := tag, wait := .stop i release } } }))) ∧
  (∀ (tag n b0 b1 b2 b3 a : Byte) (s : State),
    let body := [n, b0, b1, b2, b3, a]
    s.handles .transferStop tag body → (a.toNat = 0 ∨ 2 < a.toNat) →
      exec (.transferStopKeep tag body) s = .next (s.withRefusal .transferStop tag .badValue) ∧
      exec (.transferStopRelease tag body) s = .next (s.withRefusal .transferStop tag .badValue)) ∧
  (∀ (tag : Byte) (x : OnLine) (r : Transfer) (f : Frame) (tile : Nat) (release : Bool) (s : State),
    s.between → s.line.onLine = some x → x.party = .tiles → s.transfer = some r → r.onLine = some tile →
    s.frames.slots.get r.slot = some f → f.state = .sending → s.line.outbound.length < 16 →
    s.line.inHand = some { kind := 0x19, tag := tag, wait := .stop r.slot release } →
      let g : Frame := { f with nextUnsent := f.nextUnsent + 1 }
      let left : Option Frame :=
        if release then none
        else if tile = 191 then (if s.line.params.value .autoRelease = 1 then none else some { g with state := .sent })
        else some { g with state := .held }
      exec .tileMessageSent s = .next { s with
        frames := { s.frames with slots := s.frames.slots.set r.slot left }
        transfer := none
        line := { s.line with
          onLine := none
          inHand := none
          outbound := s.line.outbound ++
            [.reply 0x99 tag (.done (.stop (left.map Frame.state) (left.map Frame.nextUnsent)))] } })

/-! ## The profile store (chapter 10) -/

/-- R124, R157: LOAD_PROFILE's tests in both forms; an accepted load makes the spare bank LOADING, replies TAKEN and
claims the array; by bore the narrowest matching band is chosen, the lowest id among equals. That a load which comes in
the eighth suspension, or in VERIFYING under a suspension, is served in that suspension is the model's choice (log 32,
log 38). -/
def Obligations.LoadProfileChoosesAProfileAndABank : Prop :=
  ∀ (tag a b x y : Byte) (s : State), s.handles .loadProfile tag [a, b, x, y] →
    let byId := Instr.loadProfileById tag [a, b, x, y]
    let byBore := Instr.loadProfileByBore tag [a, b, x, y]
    let no : Instr → Reason → Prop := fun c r => exec c s = .next (s.withRefusal .loadProfile tag r)
    let loads : Instr → Fin 16 → Prop := fun c i =>
      (∀ w, s.spareBank w →
        let t := s.loadTaken tag (i.val + 1) w
        exec c s = .next { t with store := t.store.claimed .load }) ∧
      (∀ w, (s.engine.bank w).state = .current → (s.engine.bank w.other).state ≠ .current →
        (s.engine.bank w.other).state ≠ .empty → no c .busy)
    ((a.toNat = 0 ∨ 2 < a.toNat) → no byId .badValue ∧ no byBore .badValue) ∧
    (a = 1 →
      (16 < b.toNat → no byId .badValue) ∧
      ∀ i : Fin 16, b.toNat = i.val + 1 →
        (s.store.directory.get i = .busy → no byId .busy) ∧
        ((s.store.directory.get i = .empty ∨ s.store.directory.get i = .invalid) → no byId .noProfile) ∧
        (∀ h, s.store.directory.get i = .valid h → loads byId i)) ∧
    (a = 2 →
      ((∀ i h, ¬ s.store.suits b.toNat (le2 x y) i h) → no byBore .noProfile) ∧
      ∀ i h, s.store.suits b.toNat (le2 x y) i h →
        (∀ j k, j ≠ i → s.store.suits b.toNat (le2 x y) j k →
          h.boreMax - h.boreMin < k.boreMax - k.boreMin ∨
            h.boreMax - h.boreMin = k.boreMax - k.boreMin ∧ i < j) →
        loads byBore i)

/-- R158, R125, R126: a load of profile 0 ends in the event of its acceptance; the end of any other tests the record
as it is read: a good one fills the bank, which is swapped in at once when the sensor path is idle; a bad one empties
the bank, makes the area INVALID and raises STORE_ERROR. PROFILE_LOADED is queued, and the array goes on. That the cells
which have decayed come with LOAD_END is the model's choice (log 19), and that a LOAD_END with no load being served changes
nothing is the model's (log 3, DEDUCED). That a load of profile 0 ends at once when its reply has to wait, with sixteen
messages queued, is the model's choice (log 40). -/
def Obligations.LoadEndsFillOrEmptyTheBank : Prop :=
  (∀ (tag b x y : Byte) (w : BankId) (s : State), s.handles .loadProfile tag [1, b, x, y] → b = 0 → s.spareBank w →
    let t := s.loadTaken tag 0 w
    let u : State := { t with store := { t.store with load := none } }
    (¬ s.pathIdle → exec (.loadProfileById tag [1, b, x, y]) s =
      .next ((u.bankLoaded w 0 Profile.builtin).loadReported tag 0 w .ok)) ∧
    (s.pathIdle → exec (.loadProfileById tag [1, b, x, y]) s =
      .next ((u.bankSwappedIn w 0 Profile.builtin).loadReported tag 0 w .ok))) ∧
  (∀ (cells : List Host.Cell) (s : State), s.between →
    (s.store.serving ≠ some .load → exec (.loadEnd cells) s = .next s) ∧
    (∀ (l : LoadRecord) (i : Fin 16), s.store.serving = some .load → s.store.load = some l →
      l.profileId = i.val + 1 → (s.engine.bank l.bank).state = .loading →
      (s.engine.bank l.bank.other).state = .current →
      let area := s.store.areas.get i
      let mem := area.mem.overlay cells
      let record := mem.readRun 0 1609
      let found : StoreState :=
        { s.store.released with areas := s.store.areas.set i { area with mem := mem }, load := none }
      let u : State := { s with store := found }
      (recordPasses record (i.val + 1) = true →
        (¬ s.pathIdle → exec (.loadEnd cells) s = .next
          ((u.bankLoaded l.bank l.profileId (recordProfile record)).loadReported l.tag l.profileId l.bank .ok)) ∧
        (s.pathIdle → exec (.loadEnd cells) s = .next
          ((u.bankSwappedIn l.bank l.profileId (recordProfile record)).loadReported l.tag l.profileId l.bank .ok))) ∧
      (recordPasses record (i.val + 1) = false →
        let none : Bank := { state := .empty, profileId := none, references := 0, contents := none }
        exec (.loadEnd cells) s = .next (State.loadReported l.tag l.profileId l.bank .corrupt { s with
          store := { found with directory := found.directory.set i .invalid }
          engine := s.engine.setBank l.bank none
          line := s.line.raise .storeError }))))

/-- R150, R151: STORE_STAGE writes its bytes into the staging buffer and no others; STORE_PERMIT is refused LOCKED
under lockdown or WPROT and sets the latch otherwise; STORE_REVOKE clears it. -/
def Obligations.StagingAndPermit : Prop :=
  (∀ (tag o0 o1 n0 n1 : Byte) (data : List Byte) (s : State),
    let body := o0 :: o1 :: n0 :: n1 :: data
    let offset := le2 o0 o1
    let n := le2 n0 n1
    s.handles .storeStage tag body → data.length = n →
      let legal := 1 ≤ n ∧ n ≤ 256 ∧ offset + n ≤ 4096
      let committing := ∃ o i, s.store.operation = some o ∧ o.kind = .commit i
      (¬ legal → exec (.storeStage tag body) s = .next (s.withRefusal .storeStage tag .badValue)) ∧
      (legal → committing → exec (.storeStage tag body) s = .next (s.withRefusal .storeStage tag .busy)) ∧
      (legal → ¬ committing →
        ∃ mem : Memory,
          exec (.storeStage tag body) s = .next (State.withDone .storeStage tag .nothing
            { s with store := { s.store with staging := mem } }) ∧
          (s.store.staging.wf = true → mem.wf = true ∧
            ∀ x, mem.read x =
              if offset ≤ x ∧ x < offset + n then data.getD (x - offset) 0 else s.store.staging.read x))) ∧
  (∀ (tag : Byte) (s : State),
    (s.handles .storePermit tag [] →
      ((s.store.lockdown = true ∨ s.pins.wprot = true) →
        exec (.storePermit tag []) s = .next (s.withRefusal .storePermit tag .locked)) ∧
      (s.store.lockdown = false → s.pins.wprot = false →
        exec (.storePermit tag []) s = .next (State.withDone .storePermit tag .nothing
          { s with store := { s.store with permit := true } }))) ∧
    (s.handles .storeRevoke tag [] →
      exec (.storeRevoke tag []) s = .next (State.withDone .storeRevoke tag .nothing
        { s with store := { s.store with permit := false } })))

/-- R151, R152: STORE_LOCKDOWN puts lockdown in force and clears the latch; it and the assertion of WPROT abandon an
operation in ERASING or PROGRAMMING, and leave one in VERIFYING or none alone. The areas still to be done are judged as
the scan judges them, and STORE_DONE reports ABORTED. The release of WPROT changes its level alone. The bytes of an area
caught in the middle are free (log 9); that an abandoned protect write protects all sixteen areas without STORE_ERROR
(log 18, DEDUCED), and that an operation not begun has disturbed nothing (log 15, DEDUCED), are the model's. That a
commit's programming, and under ALL the next area's erase, has begun from ERASING_END on, so that the area is then always
caught in the middle, is the model's choice (log 35, log 39). -/
def Obligations.LockdownAndWprotAbandonTheOperation : Prop :=
  ∀ (tag : Byte) (s : State),
    let down : State := { s with store := { s.store with lockdown := true, permit := false } }
    let wired : State := { s with pins := { s.pins with wprot := true } }
    let spared := ∀ o, s.store.operation = some o → o.phase = .verifying
    (spared →
      (s.handles .storeLockdown tag [] →
        exec (.storeLockdown tag []) s = .next (down.withDone .storeLockdown tag .nothing)) ∧
      (s.between → exec .wprotAsserted s = .next wired)) ∧
    (∀ o, s.store.operation = some o → o.phase ≠ .verifying →
      (s.handles .storeLockdown tag [] →
        ∃ t, down.store.stopped o t ∧ exec (.storeLockdown tag []) s =
          .next ((down.withDone .storeLockdown tag .nothing).storeDone o.tag .aborted t)) ∧
      (s.between →
        ∃ t, wired.store.stopped o t ∧ exec .wprotAsserted s = .next (wired.storeDone o.tag .aborted t))) ∧
    (s.between → exec .wprotReleased s = .next { s with pins := { s.pins with wprot := false } })

/-- R153 to R155: the tests of STORE_COMMIT, STORE_ERASE and STORE_PROTECT, each in its order, and what an acceptance
makes of the directory and the commit record; the reply is TAKEN. Nothing else changes. That the TAKEN replies of
STORE_ERASE and STORE_PROTECT carry no field is the model's (log 17, DEDUCED); that an operation accepted while a read is
served or waits stands in its first phase, not suspended, is the model's choice (log 33). -/
def Obligations.WriteRequestsAreTestedInOrder : Prop :=
  ∀ (tag n m : Byte) (s : State),
    let loadsFrom : Fin 16 → Bool := fun i => s.store.load.any fun l => decide (l.profileId = i.val + 1)
    let fromAny := s.store.load.any fun l => decide (1 ≤ l.profileId)
    (s.handles .storeCommit tag [n] →
      let c := Instr.storeCommit tag [n]
      ((n.toNat = 0 ∨ 16 < n.toNat) → exec c s = .next (s.withRefusal .storeCommit tag .badValue)) ∧
      ∀ i : Fin 16, n.toNat = i.val + 1 →
        (∀ r, s.writeTests (s.store.protectSet.getLsbD i.val) (loadsFrom i) = some r →
          exec c s = .next (s.withRefusal .storeCommit tag r)) ∧
        (s.writeTests (s.store.protectSet.getLsbD i.val) (loadsFrom i) = none →
          (recordPasses (s.store.staging.readRun 0 1609) (i.val + 1) = false →
            exec c s = .next (s.withRefusal .storeCommit tag .badValue)) ∧
          (recordPasses (s.store.staging.readRun 0 1609) (i.val + 1) = true →
            exec c s = .next (State.withTaken .storeCommit tag (.tag tag) { s with
              store := { s.store with
                directory := s.store.directory.set i .busy
                operation := some (Operation.started (.commit i) .erasing tag s.store) } })))) ∧
    (s.handles .storeErase tag [n] →
      let c := Instr.storeErase tag [n]
      (n.toNat = 0 ∨ 16 < n.toNat ∧ n.toNat ≠ 255 →
        exec c s = .next (s.withRefusal .storeErase tag .badValue)) ∧
      (∀ i : Fin 16, n.toNat = i.val + 1 →
        (∀ r, s.writeTests (s.store.protectSet.getLsbD i.val) (loadsFrom i) = some r →
          exec c s = .next (s.withRefusal .storeErase tag r)) ∧
        (s.writeTests (s.store.protectSet.getLsbD i.val) (loadsFrom i) = none →
          exec c s = .next (State.withTaken .storeErase tag .nothing { s with
            store := { s.store with
              directory := s.store.directory.set i .busy
              operation := some (Operation.started (.erase i) .erasing tag s.store) } }))) ∧
      (n.toNat = 255 →
        (∀ r, s.writeTests (decide (s.store.protectSet ≠ 0)) fromAny = some r →
          exec c s = .next (s.withRefusal .storeErase tag r)) ∧
        (s.writeTests (decide (s.store.protectSet ≠ 0)) fromAny = none →
          exec c s = .next (State.withTaken .storeErase tag .nothing { s with
            store := { s.store with
              directory := Table.fill 16 .busy
              operation := some (Operation.started (.eraseAll 0) .erasing tag s.store) } })))) ∧
    (s.handles .storeProtect tag [n, m] →
      let c := Instr.storeProtect tag [n, m]
      (∀ r, s.writeTests false false = some r → exec c s = .next (s.withRefusal .storeProtect tag r)) ∧
      (s.writeTests false false = none →
        exec c s = .next (State.withTaken .storeProtect tag .nothing { s with
          store := { s.store with
            operation :=
              some (Operation.started (.protect (BitVec.ofNat 16 (le2 n m))) .programming tag s.store) } })))

/-- R153 to R155: what the end of each phase makes of the area, the directory, the control record and the operation,
with the cells the erase or the programming got wrong as the operand (log 19, the model's choice). A suspension asked for
and not yet reached stays asked for in the next phase or at the next area (log 29, DEDUCED). -/
def Obligations.PhasesOfTheOperation : Prop :=
  ∀ (cells : List Host.Cell) (o : Operation) (s : State),
    s.between → s.store.operation = some o → o.begun = true → o.suspension ≠ .suspended →
    let set : Fin 16 → Memory → StoreState := fun i mem =>
      { s.store with areas := s.store.areas.set i { mem := mem, disturbed := none } }
    let clean := Memory.erased.overlay cells
    let whole := clean.cells.all fun c => c.2 == 255
    let judged : Fin 16 → StoreState := fun i =>
      { set i clean with directory := s.store.directory.set i (if whole then .empty else .invalid) }
    let told := if whole then s.line else s.line.raise .storeError
    (o.phase = .erasing →
      (∀ i, o.kind = .commit i → exec (.erasingEnd cells) s = .next { s with
        store := { set i clean with operation := some { o with phase := .programming } } }) ∧
      (∀ i, o.kind = .erase i → exec (.erasingEnd cells) s = .next (State.storeDone o.tag
        (if whole then .ok else .failed) (judged i) { s with line := told })) ∧
      (∀ (i : Fin 16) (h : i.val + 1 < 16), o.kind = .eraseAll i →
        exec (.erasingEnd cells) s = .next (State.ended { s with
          line := told
          store := { judged i with operation := some { o with kind := .eraseAll ⟨i.val + 1, h⟩ } } })) ∧
      (o.kind = .eraseAll 15 →
        let all := decide (∀ i : Fin 16, (judged 15).directory.get i = .empty)
        exec (.erasingEnd cells) s = .next (State.storeDone o.tag (if all then .ok else .failed) (judged 15)
          { s with line := told }))) ∧
    (o.phase = .programming →
      (∀ i, o.kind = .commit i → exec (.programmingEnd cells) s = .next { s with
        store := { set i ((((s.store.areas.get i).mem).writeRun 0 (s.store.staging.readRun 0 1609)).overlay cells)
          with operation := some { o with phase := .verifying } } }) ∧
      (∀ p, o.kind = .protect p → exec (.programmingEnd cells) s =
        .next (s.storeDone o.tag .ok { s.store with control := .good p, protectSet := p }))) ∧
    (o.phase = .verifying → ∀ i, o.kind = .commit i →
      let record := (s.store.areas.get i).mem.readRun 0 1609
      let good := record = s.store.staging.readRun 0 1609 ∧ recordPasses record (i.val + 1) = true
      (good → exec .verifyingEnd s = .next (s.storeDone o.tag .ok
        { s.store with directory := s.store.directory.set i (.valid (recordHeader record)) })) ∧
      (¬ good → exec .verifyingEnd s = .next (State.storeDone o.tag .failed
        { s.store with directory := s.store.directory.set i .invalid }
        { s with line := s.line.raise .storeError })))

/-- R156, R159: STORE_READ's tests; an accepted read claims the array and holds the decoder; its end replies with the
bytes as they stand and lets the next read or the operation go on; a suspension point that was asked for suspends the
operation, counts it, and serves the reads that wait. That it does so in VERIFYING too, where a suspension asked for
earlier was not reached (log 29, DEDUCED), that one not asked for changes nothing (log 3, DEDUCED), and that a read which
comes in the eighth suspension, or in VERIFYING under a suspension, is served in that suspension (log 32, log 38, the
model's choices), are not the spec's. -/
def Obligations.ReadsClaimTheArray : Prop :=
  (∀ (tag n o0 o1 n0 n1 : Byte) (s : State),
    let c := Instr.storeRead tag [n, o0, o1, n0, n1]
    let offset := le2 o0 o1
    let length := le2 n0 n1
    let legal := 1 ≤ length ∧ length ≤ 256 ∧ offset + length ≤ 4096
    s.handles .storeRead tag [n, o0, o1, n0, n1] →
      ((n.toNat = 0 ∨ 16 < n.toNat ∨ ¬ legal) → exec c s = .next (s.withRefusal .storeRead tag .badValue)) ∧
      ∀ i : Fin 16, n.toNat = i.val + 1 → legal →
        (s.store.directory.get i = .busy → exec c s = .next (s.withRefusal .storeRead tag .busy)) ∧
        (s.store.directory.get i ≠ .busy → exec c s = .next { s with
          line := { s.line with
            inbound := s.line.inbound.tail
            inHand := some { kind := 0x22, tag := tag, wait := .read i offset length } }
          store := s.store.claimed .storeRead })) ∧
  (∀ (tag : Byte) (i : Fin 16) (offset length : Nat) (s : State),
    s.between → s.store.serving = some .storeRead → s.line.outbound.length < 16 →
    s.line.inHand = some { kind := 0x22, tag := tag, wait := .read i offset length } →
      ∃ bytes : List Byte,
        exec .storeReadEnd s = .next { s with
          line := { s.line with
            inHand := none
            outbound := s.line.outbound ++ [.reply 0xA2 tag (.done (.data bytes))] }
          store := s.store.released } ∧
        bytes.length = length ∧
        ((s.store.areas.get i).disturbed = none →
          ∀ k < length, bytes[k]? = some ((s.store.areas.get i).mem.read (offset + k)))) ∧
  (∀ (o : Operation) (s : State), s.between → s.store.operation = some o →
    (o.suspension ≠ .asked → exec .suspensionPoint s = .next s) ∧
    (o.suspension = .asked → s.store.serving = none →
      exec .suspensionPoint s = .next { s with
        store := { s.store with
          operation := some { o with suspension := .suspended, count := o.count + 1 }
          serving := s.store.waiting.head?
          waiting := s.store.waiting.tail } }))

/-! ## Conditions and invariants -/

/-- R166: once set, a condition stays set through every command but CLEAR_CONDITIONS and those that can bring a reset. -/
def Obligations.ConditionsStaySet : Prop :=
  ∀ (c : Instr) (d : Condition) (s t : State),
    exec c s = .next t → d.isIn s.line.conditions = true →
    (∀ (tag : Byte) (body : List Byte), c ≠ .clearConditions tag body) →
    c ≠ .powerOnReset → c ≠ .brownout → c ≠ .resetInput →
    (c = .messageSent → ∀ m, s.line.outbound.head? = some m → m.isResetReply = false) →
      d.isIn t.line.conditions = true

/-- R162, R164: every step keeps at most four messages in the inbound buffer and sixteen in the outbound queue, of
which at most fourteen are notices, with no notice left to place. The memories' canonical form (the model's own, log
6) and R168: every step keeps the staging buffer and the areas canonical, and every parameter within its range with
the cross-check held. -/
def Obligations.StepKeepsTheStoredFormsLegal : Prop :=
  (∀ s t : State, s.linesWithin → step s = .next t → t.linesWithin) ∧
  ((∀ s t : State, s.memoriesCanonical → step s = .next t → t.memoriesCanonical) ∧
      (∀ s t : State, s.line.params.legal → step s = .next t → t.line.params.legal))

/-- R55, R64, R67: every step keeps LIT asserted exactly while a strobe is in progress, EXPOSE exactly while that is a
capture's, the guard armed exactly then with at most 5,000 µs, and the drives at the strobe's levels. -/
def Obligations.StepKeepsTheLightMatched : Prop :=
  ∀ s t : State, s.lightMatches → step s = .next t → t.lightMatches

/-- R122, R124: every step keeps exactly one bank CURRENT, each bank's fields as its state has them, and the bank of a
load in progress LOADING. -/
def Obligations.StepKeepsTheBanksOrdered : Prop :=
  ∀ s t : State, s.banksOrdered → step s = .next t → t.banksOrdered

/-- R151, R152: every step keeps an operation in ERASING or PROGRAMMING to a part that is not locked down, with WPROT
released, and to areas outside the protect set. -/
def Obligations.StepKeepsWritesAllowed : Prop :=
  ∀ s t : State, s.writesAllowed → step s = .next t → t.writesAllowed

/-- The six invariants hold right after a power-on reset. -/
def Obligations.InvariantsHoldAtReset : Prop :=
  State.reset.linesWithin ∧ State.reset.memoriesCanonical ∧ State.reset.line.params.legal ∧
    State.reset.lightMatches ∧ State.reset.banksOrdered ∧ State.reset.writesAllowed
end

