-- ==== Sys2Proof/Laws/State.lean ====
section
/-! SUPPORT. One lemma for each field and each update of one block: no later proof unfolds a record update. -/

namespace Sys2Proof.Machine

/-! ### updLine -/

@[simp] theorem State.updLine_pending (s : State) (f : LineState → LineState) : (s.updLine f).pending = s.pending := rfl
@[simp] theorem State.updLine_powered (s : State) (f : LineState → LineState) : (s.updLine f).powered = s.powered := rfl
@[simp] theorem State.updLine_pins (s : State) (f : LineState → LineState) : (s.updLine f).pins = s.pins := rfl
@[simp] theorem State.updLine_line (s : State) (f : LineState → LineState) : (s.updLine f).line = f s.line := rfl
@[simp] theorem State.updLine_run (s : State) (f : LineState → LineState) : (s.updLine f).run = s.run := rfl
@[simp] theorem State.updLine_travel (s : State) (f : LineState → LineState) : (s.updLine f).travel = s.travel := rfl
@[simp] theorem State.updLine_ring (s : State) (f : LineState → LineState) : (s.updLine f).ring = s.ring := rfl
@[simp] theorem State.updLine_monitor (s : State) (f : LineState → LineState) : (s.updLine f).monitor = s.monitor := rfl
@[simp] theorem State.updLine_balance (s : State) (f : LineState → LineState) : (s.updLine f).balance = s.balance := rfl
@[simp] theorem State.updLine_frames (s : State) (f : LineState → LineState) : (s.updLine f).frames = s.frames := rfl
@[simp] theorem State.updLine_engine (s : State) (f : LineState → LineState) : (s.updLine f).engine = s.engine := rfl
@[simp] theorem State.updLine_transfer (s : State) (f : LineState → LineState) : (s.updLine f).transfer = s.transfer := rfl
@[simp] theorem State.updLine_store (s : State) (f : LineState → LineState) : (s.updLine f).store = s.store := rfl

/-! ### updRun -/

@[simp] theorem State.updRun_pending (s : State) (f : RunState → RunState) : (s.updRun f).pending = s.pending := rfl
@[simp] theorem State.updRun_powered (s : State) (f : RunState → RunState) : (s.updRun f).powered = s.powered := rfl
@[simp] theorem State.updRun_pins (s : State) (f : RunState → RunState) : (s.updRun f).pins = s.pins := rfl
@[simp] theorem State.updRun_line (s : State) (f : RunState → RunState) : (s.updRun f).line = s.line := rfl
@[simp] theorem State.updRun_run (s : State) (f : RunState → RunState) : (s.updRun f).run = f s.run := rfl
@[simp] theorem State.updRun_travel (s : State) (f : RunState → RunState) : (s.updRun f).travel = s.travel := rfl
@[simp] theorem State.updRun_ring (s : State) (f : RunState → RunState) : (s.updRun f).ring = s.ring := rfl
@[simp] theorem State.updRun_monitor (s : State) (f : RunState → RunState) : (s.updRun f).monitor = s.monitor := rfl
@[simp] theorem State.updRun_balance (s : State) (f : RunState → RunState) : (s.updRun f).balance = s.balance := rfl
@[simp] theorem State.updRun_frames (s : State) (f : RunState → RunState) : (s.updRun f).frames = s.frames := rfl
@[simp] theorem State.updRun_engine (s : State) (f : RunState → RunState) : (s.updRun f).engine = s.engine := rfl
@[simp] theorem State.updRun_transfer (s : State) (f : RunState → RunState) : (s.updRun f).transfer = s.transfer := rfl
@[simp] theorem State.updRun_store (s : State) (f : RunState → RunState) : (s.updRun f).store = s.store := rfl

/-! ### updTravel -/

@[simp] theorem State.updTravel_pending (s : State) (f : TravelState → TravelState) : (s.updTravel f).pending = s.pending := rfl
@[simp] theorem State.updTravel_powered (s : State) (f : TravelState → TravelState) : (s.updTravel f).powered = s.powered := rfl
@[simp] theorem State.updTravel_pins (s : State) (f : TravelState → TravelState) : (s.updTravel f).pins = s.pins := rfl
@[simp] theorem State.updTravel_line (s : State) (f : TravelState → TravelState) : (s.updTravel f).line = s.line := rfl
@[simp] theorem State.updTravel_run (s : State) (f : TravelState → TravelState) : (s.updTravel f).run = s.run := rfl
@[simp] theorem State.updTravel_travel (s : State) (f : TravelState → TravelState) : (s.updTravel f).travel = f s.travel := rfl
@[simp] theorem State.updTravel_ring (s : State) (f : TravelState → TravelState) : (s.updTravel f).ring = s.ring := rfl
@[simp] theorem State.updTravel_monitor (s : State) (f : TravelState → TravelState) : (s.updTravel f).monitor = s.monitor := rfl
@[simp] theorem State.updTravel_balance (s : State) (f : TravelState → TravelState) : (s.updTravel f).balance = s.balance := rfl
@[simp] theorem State.updTravel_frames (s : State) (f : TravelState → TravelState) : (s.updTravel f).frames = s.frames := rfl
@[simp] theorem State.updTravel_engine (s : State) (f : TravelState → TravelState) : (s.updTravel f).engine = s.engine := rfl
@[simp] theorem State.updTravel_transfer (s : State) (f : TravelState → TravelState) : (s.updTravel f).transfer = s.transfer := rfl
@[simp] theorem State.updTravel_store (s : State) (f : TravelState → TravelState) : (s.updTravel f).store = s.store := rfl

/-! ### updRing -/

@[simp] theorem State.updRing_pending (s : State) (f : RingState → RingState) : (s.updRing f).pending = s.pending := rfl
@[simp] theorem State.updRing_powered (s : State) (f : RingState → RingState) : (s.updRing f).powered = s.powered := rfl
@[simp] theorem State.updRing_pins (s : State) (f : RingState → RingState) : (s.updRing f).pins = s.pins := rfl
@[simp] theorem State.updRing_line (s : State) (f : RingState → RingState) : (s.updRing f).line = s.line := rfl
@[simp] theorem State.updRing_run (s : State) (f : RingState → RingState) : (s.updRing f).run = s.run := rfl
@[simp] theorem State.updRing_travel (s : State) (f : RingState → RingState) : (s.updRing f).travel = s.travel := rfl
@[simp] theorem State.updRing_ring (s : State) (f : RingState → RingState) : (s.updRing f).ring = f s.ring := rfl
@[simp] theorem State.updRing_monitor (s : State) (f : RingState → RingState) : (s.updRing f).monitor = s.monitor := rfl
@[simp] theorem State.updRing_balance (s : State) (f : RingState → RingState) : (s.updRing f).balance = s.balance := rfl
@[simp] theorem State.updRing_frames (s : State) (f : RingState → RingState) : (s.updRing f).frames = s.frames := rfl
@[simp] theorem State.updRing_engine (s : State) (f : RingState → RingState) : (s.updRing f).engine = s.engine := rfl
@[simp] theorem State.updRing_transfer (s : State) (f : RingState → RingState) : (s.updRing f).transfer = s.transfer := rfl
@[simp] theorem State.updRing_store (s : State) (f : RingState → RingState) : (s.updRing f).store = s.store := rfl

/-! ### updMonitor -/

@[simp] theorem State.updMonitor_pending (s : State) (f : MonitorState → MonitorState) : (s.updMonitor f).pending = s.pending := rfl
@[simp] theorem State.updMonitor_powered (s : State) (f : MonitorState → MonitorState) : (s.updMonitor f).powered = s.powered := rfl
@[simp] theorem State.updMonitor_pins (s : State) (f : MonitorState → MonitorState) : (s.updMonitor f).pins = s.pins := rfl
@[simp] theorem State.updMonitor_line (s : State) (f : MonitorState → MonitorState) : (s.updMonitor f).line = s.line := rfl
@[simp] theorem State.updMonitor_run (s : State) (f : MonitorState → MonitorState) : (s.updMonitor f).run = s.run := rfl
@[simp] theorem State.updMonitor_travel (s : State) (f : MonitorState → MonitorState) : (s.updMonitor f).travel = s.travel := rfl
@[simp] theorem State.updMonitor_ring (s : State) (f : MonitorState → MonitorState) : (s.updMonitor f).ring = s.ring := rfl
@[simp] theorem State.updMonitor_monitor (s : State) (f : MonitorState → MonitorState) : (s.updMonitor f).monitor = f s.monitor := rfl
@[simp] theorem State.updMonitor_balance (s : State) (f : MonitorState → MonitorState) : (s.updMonitor f).balance = s.balance := rfl
@[simp] theorem State.updMonitor_frames (s : State) (f : MonitorState → MonitorState) : (s.updMonitor f).frames = s.frames := rfl
@[simp] theorem State.updMonitor_engine (s : State) (f : MonitorState → MonitorState) : (s.updMonitor f).engine = s.engine := rfl
@[simp] theorem State.updMonitor_transfer (s : State) (f : MonitorState → MonitorState) : (s.updMonitor f).transfer = s.transfer := rfl
@[simp] theorem State.updMonitor_store (s : State) (f : MonitorState → MonitorState) : (s.updMonitor f).store = s.store := rfl

/-! ### updBalance -/

@[simp] theorem State.updBalance_pending (s : State) (f : BalanceUnit → BalanceUnit) : (s.updBalance f).pending = s.pending := rfl
@[simp] theorem State.updBalance_powered (s : State) (f : BalanceUnit → BalanceUnit) : (s.updBalance f).powered = s.powered := rfl
@[simp] theorem State.updBalance_pins (s : State) (f : BalanceUnit → BalanceUnit) : (s.updBalance f).pins = s.pins := rfl
@[simp] theorem State.updBalance_line (s : State) (f : BalanceUnit → BalanceUnit) : (s.updBalance f).line = s.line := rfl
@[simp] theorem State.updBalance_run (s : State) (f : BalanceUnit → BalanceUnit) : (s.updBalance f).run = s.run := rfl
@[simp] theorem State.updBalance_travel (s : State) (f : BalanceUnit → BalanceUnit) : (s.updBalance f).travel = s.travel := rfl
@[simp] theorem State.updBalance_ring (s : State) (f : BalanceUnit → BalanceUnit) : (s.updBalance f).ring = s.ring := rfl
@[simp] theorem State.updBalance_monitor (s : State) (f : BalanceUnit → BalanceUnit) : (s.updBalance f).monitor = s.monitor := rfl
@[simp] theorem State.updBalance_balance (s : State) (f : BalanceUnit → BalanceUnit) : (s.updBalance f).balance = f s.balance := rfl
@[simp] theorem State.updBalance_frames (s : State) (f : BalanceUnit → BalanceUnit) : (s.updBalance f).frames = s.frames := rfl
@[simp] theorem State.updBalance_engine (s : State) (f : BalanceUnit → BalanceUnit) : (s.updBalance f).engine = s.engine := rfl
@[simp] theorem State.updBalance_transfer (s : State) (f : BalanceUnit → BalanceUnit) : (s.updBalance f).transfer = s.transfer := rfl
@[simp] theorem State.updBalance_store (s : State) (f : BalanceUnit → BalanceUnit) : (s.updBalance f).store = s.store := rfl

/-! ### updFrames -/

@[simp] theorem State.updFrames_pending (s : State) (f : FrameStore → FrameStore) : (s.updFrames f).pending = s.pending := rfl
@[simp] theorem State.updFrames_powered (s : State) (f : FrameStore → FrameStore) : (s.updFrames f).powered = s.powered := rfl
@[simp] theorem State.updFrames_pins (s : State) (f : FrameStore → FrameStore) : (s.updFrames f).pins = s.pins := rfl
@[simp] theorem State.updFrames_line (s : State) (f : FrameStore → FrameStore) : (s.updFrames f).line = s.line := rfl
@[simp] theorem State.updFrames_run (s : State) (f : FrameStore → FrameStore) : (s.updFrames f).run = s.run := rfl
@[simp] theorem State.updFrames_travel (s : State) (f : FrameStore → FrameStore) : (s.updFrames f).travel = s.travel := rfl
@[simp] theorem State.updFrames_ring (s : State) (f : FrameStore → FrameStore) : (s.updFrames f).ring = s.ring := rfl
@[simp] theorem State.updFrames_monitor (s : State) (f : FrameStore → FrameStore) : (s.updFrames f).monitor = s.monitor := rfl
@[simp] theorem State.updFrames_balance (s : State) (f : FrameStore → FrameStore) : (s.updFrames f).balance = s.balance := rfl
@[simp] theorem State.updFrames_frames (s : State) (f : FrameStore → FrameStore) : (s.updFrames f).frames = f s.frames := rfl
@[simp] theorem State.updFrames_engine (s : State) (f : FrameStore → FrameStore) : (s.updFrames f).engine = s.engine := rfl
@[simp] theorem State.updFrames_transfer (s : State) (f : FrameStore → FrameStore) : (s.updFrames f).transfer = s.transfer := rfl
@[simp] theorem State.updFrames_store (s : State) (f : FrameStore → FrameStore) : (s.updFrames f).store = s.store := rfl

/-! ### updEngine -/

@[simp] theorem State.updEngine_pending (s : State) (f : EngineState → EngineState) : (s.updEngine f).pending = s.pending := rfl
@[simp] theorem State.updEngine_powered (s : State) (f : EngineState → EngineState) : (s.updEngine f).powered = s.powered := rfl
@[simp] theorem State.updEngine_pins (s : State) (f : EngineState → EngineState) : (s.updEngine f).pins = s.pins := rfl
@[simp] theorem State.updEngine_line (s : State) (f : EngineState → EngineState) : (s.updEngine f).line = s.line := rfl
@[simp] theorem State.updEngine_run (s : State) (f : EngineState → EngineState) : (s.updEngine f).run = s.run := rfl
@[simp] theorem State.updEngine_travel (s : State) (f : EngineState → EngineState) : (s.updEngine f).travel = s.travel := rfl
@[simp] theorem State.updEngine_ring (s : State) (f : EngineState → EngineState) : (s.updEngine f).ring = s.ring := rfl
@[simp] theorem State.updEngine_monitor (s : State) (f : EngineState → EngineState) : (s.updEngine f).monitor = s.monitor := rfl
@[simp] theorem State.updEngine_balance (s : State) (f : EngineState → EngineState) : (s.updEngine f).balance = s.balance := rfl
@[simp] theorem State.updEngine_frames (s : State) (f : EngineState → EngineState) : (s.updEngine f).frames = s.frames := rfl
@[simp] theorem State.updEngine_engine (s : State) (f : EngineState → EngineState) : (s.updEngine f).engine = f s.engine := rfl
@[simp] theorem State.updEngine_transfer (s : State) (f : EngineState → EngineState) : (s.updEngine f).transfer = s.transfer := rfl
@[simp] theorem State.updEngine_store (s : State) (f : EngineState → EngineState) : (s.updEngine f).store = s.store := rfl

/-! ### updStore -/

@[simp] theorem State.updStore_pending (s : State) (f : StoreState → StoreState) : (s.updStore f).pending = s.pending := rfl
@[simp] theorem State.updStore_powered (s : State) (f : StoreState → StoreState) : (s.updStore f).powered = s.powered := rfl
@[simp] theorem State.updStore_pins (s : State) (f : StoreState → StoreState) : (s.updStore f).pins = s.pins := rfl
@[simp] theorem State.updStore_line (s : State) (f : StoreState → StoreState) : (s.updStore f).line = s.line := rfl
@[simp] theorem State.updStore_run (s : State) (f : StoreState → StoreState) : (s.updStore f).run = s.run := rfl
@[simp] theorem State.updStore_travel (s : State) (f : StoreState → StoreState) : (s.updStore f).travel = s.travel := rfl
@[simp] theorem State.updStore_ring (s : State) (f : StoreState → StoreState) : (s.updStore f).ring = s.ring := rfl
@[simp] theorem State.updStore_monitor (s : State) (f : StoreState → StoreState) : (s.updStore f).monitor = s.monitor := rfl
@[simp] theorem State.updStore_balance (s : State) (f : StoreState → StoreState) : (s.updStore f).balance = s.balance := rfl
@[simp] theorem State.updStore_frames (s : State) (f : StoreState → StoreState) : (s.updStore f).frames = s.frames := rfl
@[simp] theorem State.updStore_engine (s : State) (f : StoreState → StoreState) : (s.updStore f).engine = s.engine := rfl
@[simp] theorem State.updStore_transfer (s : State) (f : StoreState → StoreState) : (s.updStore f).transfer = s.transfer := rfl
@[simp] theorem State.updStore_store (s : State) (f : StoreState → StoreState) : (s.updStore f).store = f s.store := rfl

/-! ### updPins -/

@[simp] theorem State.updPins_pending (s : State) (f : Pins → Pins) : (s.updPins f).pending = s.pending := rfl
@[simp] theorem State.updPins_powered (s : State) (f : Pins → Pins) : (s.updPins f).powered = s.powered := rfl
@[simp] theorem State.updPins_pins (s : State) (f : Pins → Pins) : (s.updPins f).pins = f s.pins := rfl
@[simp] theorem State.updPins_line (s : State) (f : Pins → Pins) : (s.updPins f).line = s.line := rfl
@[simp] theorem State.updPins_run (s : State) (f : Pins → Pins) : (s.updPins f).run = s.run := rfl
@[simp] theorem State.updPins_travel (s : State) (f : Pins → Pins) : (s.updPins f).travel = s.travel := rfl
@[simp] theorem State.updPins_ring (s : State) (f : Pins → Pins) : (s.updPins f).ring = s.ring := rfl
@[simp] theorem State.updPins_monitor (s : State) (f : Pins → Pins) : (s.updPins f).monitor = s.monitor := rfl
@[simp] theorem State.updPins_balance (s : State) (f : Pins → Pins) : (s.updPins f).balance = s.balance := rfl
@[simp] theorem State.updPins_frames (s : State) (f : Pins → Pins) : (s.updPins f).frames = s.frames := rfl
@[simp] theorem State.updPins_engine (s : State) (f : Pins → Pins) : (s.updPins f).engine = s.engine := rfl
@[simp] theorem State.updPins_transfer (s : State) (f : Pins → Pins) : (s.updPins f).transfer = s.transfer := rfl
@[simp] theorem State.updPins_store (s : State) (f : Pins → Pins) : (s.updPins f).store = s.store := rfl

/-! ### putTransfer -/

@[simp] theorem State.putTransfer_pending (s : State) (t : Option Transfer) : (s.putTransfer t).pending = s.pending := rfl
@[simp] theorem State.putTransfer_powered (s : State) (t : Option Transfer) : (s.putTransfer t).powered = s.powered := rfl
@[simp] theorem State.putTransfer_pins (s : State) (t : Option Transfer) : (s.putTransfer t).pins = s.pins := rfl
@[simp] theorem State.putTransfer_line (s : State) (t : Option Transfer) : (s.putTransfer t).line = s.line := rfl
@[simp] theorem State.putTransfer_run (s : State) (t : Option Transfer) : (s.putTransfer t).run = s.run := rfl
@[simp] theorem State.putTransfer_travel (s : State) (t : Option Transfer) : (s.putTransfer t).travel = s.travel := rfl
@[simp] theorem State.putTransfer_ring (s : State) (t : Option Transfer) : (s.putTransfer t).ring = s.ring := rfl
@[simp] theorem State.putTransfer_monitor (s : State) (t : Option Transfer) : (s.putTransfer t).monitor = s.monitor := rfl
@[simp] theorem State.putTransfer_balance (s : State) (t : Option Transfer) : (s.putTransfer t).balance = s.balance := rfl
@[simp] theorem State.putTransfer_frames (s : State) (t : Option Transfer) : (s.putTransfer t).frames = s.frames := rfl
@[simp] theorem State.putTransfer_engine (s : State) (t : Option Transfer) : (s.putTransfer t).engine = s.engine := rfl
@[simp] theorem State.putTransfer_transfer (s : State) (t : Option Transfer) : (s.putTransfer t).transfer = t := rfl
@[simp] theorem State.putTransfer_store (s : State) (t : Option Transfer) : (s.putTransfer t).store = s.store := rfl

end Sys2Proof.Machine
end

