-- ==== Sys2Proof/Laws/Captures.lean ====
section
/-! SUPPORT. For each shared operation, the blocks it leaves as they are: everything it can do is in the others. -/

namespace Sys2Proof.Machine

@[simp] theorem State.raise_keeps (c : Condition) (s : State) :
    (s.raise c).pending = s.pending ∧ (s.raise c).powered = s.powered ∧ (s.raise c).pins = s.pins ∧
    (s.raise c).run = s.run ∧ (s.raise c).travel = s.travel ∧ (s.raise c).ring = s.ring ∧
    (s.raise c).monitor = s.monitor ∧ (s.raise c).balance = s.balance ∧ (s.raise c).frames = s.frames ∧
    (s.raise c).engine = s.engine ∧ (s.raise c).transfer = s.transfer ∧ (s.raise c).store = s.store := by
  simp [State.raise]

@[simp] theorem State.notify_keeps (n : Notice) (s : State) :
    (s.notify n).pending = s.pending ∧ (s.notify n).powered = s.powered ∧ (s.notify n).pins = s.pins ∧
    (s.notify n).run = s.run ∧ (s.notify n).travel = s.travel ∧ (s.notify n).ring = s.ring ∧
    (s.notify n).monitor = s.monitor ∧ (s.notify n).balance = s.balance ∧ (s.notify n).frames = s.frames ∧
    (s.notify n).engine = s.engine ∧ (s.notify n).transfer = s.transfer ∧ (s.notify n).store = s.store := by
  simp [State.notify]

@[simp] theorem State.answer_keeps (r : ReplyBody) (s : State) :
    (s.answer r).pending = s.pending ∧ (s.answer r).powered = s.powered ∧ (s.answer r).pins = s.pins ∧
    (s.answer r).run = s.run ∧ (s.answer r).travel = s.travel ∧ (s.answer r).ring = s.ring ∧
    (s.answer r).monitor = s.monitor ∧ (s.answer r).balance = s.balance ∧ (s.answer r).frames = s.frames ∧
    (s.answer r).engine = s.engine ∧ (s.answer r).transfer = s.transfer ∧ (s.answer r).store = s.store := by
  simp [State.answer]

@[simp] theorem State.done_keeps (r : Result) (s : State) :
    (s.done r).pending = s.pending ∧ (s.done r).powered = s.powered ∧ (s.done r).pins = s.pins ∧
    (s.done r).run = s.run ∧ (s.done r).travel = s.travel ∧ (s.done r).ring = s.ring ∧
    (s.done r).monitor = s.monitor ∧ (s.done r).balance = s.balance ∧ (s.done r).frames = s.frames ∧
    (s.done r).engine = s.engine ∧ (s.done r).transfer = s.transfer ∧ (s.done r).store = s.store := by
  simp [State.done]

@[simp] theorem State.taken_keeps (r : Result) (s : State) :
    (s.taken r).pending = s.pending ∧ (s.taken r).powered = s.powered ∧ (s.taken r).pins = s.pins ∧
    (s.taken r).run = s.run ∧ (s.taken r).travel = s.travel ∧ (s.taken r).ring = s.ring ∧
    (s.taken r).monitor = s.monitor ∧ (s.taken r).balance = s.balance ∧ (s.taken r).frames = s.frames ∧
    (s.taken r).engine = s.engine ∧ (s.taken r).transfer = s.transfer ∧ (s.taken r).store = s.store := by
  simp [State.taken]

@[simp] theorem State.refuse_keeps (r : Reason) (s : State) :
    (s.refuse r).pending = s.pending ∧ (s.refuse r).powered = s.powered ∧ (s.refuse r).pins = s.pins ∧
    (s.refuse r).run = s.run ∧ (s.refuse r).travel = s.travel ∧ (s.refuse r).ring = s.ring ∧
    (s.refuse r).monitor = s.monitor ∧ (s.refuse r).balance = s.balance ∧ (s.refuse r).frames = s.frames ∧
    (s.refuse r).engine = s.engine ∧ (s.refuse r).transfer = s.transfer ∧ (s.refuse r).store = s.store := by
  simp [State.refuse]

@[simp] theorem State.putFrame_keeps (i : Fin 6) (o : Option Frame) (s : State) :
    (s.putFrame i o).pending = s.pending ∧ (s.putFrame i o).powered = s.powered ∧
    (s.putFrame i o).pins = s.pins ∧ (s.putFrame i o).line = s.line ∧ (s.putFrame i o).run = s.run ∧
    (s.putFrame i o).travel = s.travel ∧ (s.putFrame i o).ring = s.ring ∧
    (s.putFrame i o).monitor = s.monitor ∧ (s.putFrame i o).balance = s.balance ∧
    (s.putFrame i o).engine = s.engine ∧ (s.putFrame i o).transfer = s.transfer ∧
    (s.putFrame i o).store = s.store := by
  simp [State.putFrame]

@[simp] theorem State.modifyFrame_keeps (i : Fin 6) (g : Frame → Frame) (s : State) :
    (s.modifyFrame i g).pending = s.pending ∧ (s.modifyFrame i g).powered = s.powered ∧
    (s.modifyFrame i g).pins = s.pins ∧ (s.modifyFrame i g).line = s.line ∧
    (s.modifyFrame i g).run = s.run ∧ (s.modifyFrame i g).travel = s.travel ∧
    (s.modifyFrame i g).ring = s.ring ∧ (s.modifyFrame i g).monitor = s.monitor ∧
    (s.modifyFrame i g).balance = s.balance ∧ (s.modifyFrame i g).engine = s.engine ∧
    (s.modifyFrame i g).transfer = s.transfer ∧ (s.modifyFrame i g).store = s.store := by
  simp [State.modifyFrame]

@[simp] theorem State.enterCold_keeps (s : State) :
    (s.enterCold).pending = s.pending ∧ (s.enterCold).powered = s.powered ∧ (s.enterCold).pins = s.pins ∧
    (s.enterCold).line = s.line ∧ (s.enterCold).run = s.run ∧ (s.enterCold).travel = s.travel ∧
    (s.enterCold).ring = s.ring ∧ (s.enterCold).monitor = s.monitor ∧ (s.enterCold).frames = s.frames ∧
    (s.enterCold).engine = s.engine ∧ (s.enterCold).transfer = s.transfer ∧
    (s.enterCold).store = s.store := by
  simp [State.enterCold]

@[simp] theorem State.swapIfDue_keeps (s : State) :
    (s.swapIfDue).pending = s.pending ∧ (s.swapIfDue).powered = s.powered ∧ (s.swapIfDue).pins = s.pins ∧
    (s.swapIfDue).line = s.line ∧ (s.swapIfDue).run = s.run ∧ (s.swapIfDue).travel = s.travel ∧
    (s.swapIfDue).ring = s.ring ∧ (s.swapIfDue).monitor = s.monitor ∧ (s.swapIfDue).frames = s.frames ∧
    (s.swapIfDue).transfer = s.transfer ∧ (s.swapIfDue).store = s.store := by
  unfold State.swapIfDue
  dsimp only
  repeat' split
  all_goals simp

@[simp] theorem State.discard_keeps (i : Fin 6) (s : State) :
    (s.discard i).pending = s.pending ∧ (s.discard i).powered = s.powered ∧ (s.discard i).pins = s.pins ∧
    (s.discard i).line = s.line ∧ (s.discard i).run = s.run ∧ (s.discard i).travel = s.travel ∧
    (s.discard i).ring = s.ring ∧ (s.discard i).monitor = s.monitor ∧ (s.discard i).balance = s.balance ∧
    (s.discard i).transfer = s.transfer ∧ (s.discard i).store = s.store := by
  unfold State.discard
  dsimp only
  repeat' split
  all_goals simp

@[simp] theorem State.engineTake_keeps (s : State) :
    (s.engineTake).pending = s.pending ∧ (s.engineTake).powered = s.powered ∧
    (s.engineTake).pins = s.pins ∧ (s.engineTake).line = s.line ∧ (s.engineTake).run = s.run ∧
    (s.engineTake).travel = s.travel ∧ (s.engineTake).ring = s.ring ∧ (s.engineTake).monitor = s.monitor ∧
    (s.engineTake).balance = s.balance ∧ (s.engineTake).transfer = s.transfer ∧
    (s.engineTake).store = s.store := by
  unfold State.engineTake
  dsimp only
  repeat' split
  all_goals simp

@[simp] theorem State.closeIfIdle_keeps (s : State) :
    (s.closeIfIdle).pending = s.pending ∧ (s.closeIfIdle).powered = s.powered ∧
    (s.closeIfIdle).pins = s.pins ∧ (s.closeIfIdle).travel = s.travel ∧ (s.closeIfIdle).ring = s.ring ∧
    (s.closeIfIdle).monitor = s.monitor ∧ (s.closeIfIdle).balance = s.balance ∧
    (s.closeIfIdle).frames = s.frames ∧ (s.closeIfIdle).engine = s.engine ∧
    (s.closeIfIdle).transfer = s.transfer ∧ (s.closeIfIdle).store = s.store := by
  unfold State.closeIfIdle
  dsimp only
  repeat' split
  all_goals simp

@[simp] theorem State.abandon_keeps (i : Fin 6) (s : State) :
    (s.abandon i).pending = s.pending ∧ (s.abandon i).powered = s.powered ∧ (s.abandon i).pins = s.pins ∧
    (s.abandon i).line = s.line ∧ (s.abandon i).travel = s.travel ∧ (s.abandon i).monitor = s.monitor ∧
    (s.abandon i).transfer = s.transfer ∧ (s.abandon i).store = s.store := by
  unfold State.abandon
  dsimp only
  repeat' split
  all_goals simp

@[simp] theorem State.abandonArmed_keeps (s : State) :
    (s.abandonArmed).pending = s.pending ∧ (s.abandonArmed).powered = s.powered ∧
    (s.abandonArmed).pins = s.pins ∧ (s.abandonArmed).line = s.line ∧ (s.abandonArmed).travel = s.travel ∧
    (s.abandonArmed).monitor = s.monitor ∧ (s.abandonArmed).transfer = s.transfer ∧
    (s.abandonArmed).store = s.store := by
  unfold State.abandonArmed
  repeat' split
  all_goals simp

@[simp] theorem State.stopRun_keeps (e : EndReason) (s : State) :
    (s.stopRun e).pending = s.pending ∧ (s.stopRun e).powered = s.powered ∧ (s.stopRun e).pins = s.pins ∧
    (s.stopRun e).line = s.line ∧ (s.stopRun e).ring = s.ring ∧ (s.stopRun e).monitor = s.monitor ∧
    (s.stopRun e).balance = s.balance ∧ (s.stopRun e).frames = s.frames ∧
    (s.stopRun e).engine = s.engine ∧ (s.stopRun e).transfer = s.transfer ∧
    (s.stopRun e).store = s.store := by
  simp [State.stopRun]

@[simp] theorem State.leaveRunning_keeps (e : EndReason) (s : State) :
    (s.leaveRunning e).pending = s.pending ∧ (s.leaveRunning e).powered = s.powered ∧
    (s.leaveRunning e).pins = s.pins ∧ (s.leaveRunning e).line = s.line ∧
    (s.leaveRunning e).monitor = s.monitor ∧ (s.leaveRunning e).transfer = s.transfer ∧
    (s.leaveRunning e).store = s.store := by
  simp [State.leaveRunning]

@[simp] theorem State.endRun_keeps (e : EndReason) (s : State) :
    (s.endRun e).pending = s.pending ∧ (s.endRun e).powered = s.powered ∧ (s.endRun e).pins = s.pins ∧
    (s.endRun e).monitor = s.monitor ∧ (s.endRun e).transfer = s.transfer ∧ (s.endRun e).store = s.store := by
  unfold State.endRun
  repeat' split
  all_goals simp

@[simp] theorem State.fillSlot_keeps (i : Fin 6) (n : Option Nat) (t : Trigger) (s : State) :
    (s.fillSlot i n t).pending = s.pending ∧ (s.fillSlot i n t).powered = s.powered ∧
    (s.fillSlot i n t).pins = s.pins ∧ (s.fillSlot i n t).line = s.line ∧ (s.fillSlot i n t).run = s.run ∧
    (s.fillSlot i n t).travel = s.travel ∧ (s.fillSlot i n t).monitor = s.monitor ∧
    (s.fillSlot i n t).balance = s.balance ∧ (s.fillSlot i n t).transfer = s.transfer ∧
    (s.fillSlot i n t).store = s.store := by
  simp [State.fillSlot]

@[simp] theorem State.withdraw_keeps (i : Fin 6) (s : State) :
    (s.withdraw i).pending = s.pending ∧ (s.withdraw i).powered = s.powered ∧
    (s.withdraw i).pins = s.pins ∧ (s.withdraw i).run = s.run ∧ (s.withdraw i).travel = s.travel ∧
    (s.withdraw i).ring = s.ring ∧ (s.withdraw i).monitor = s.monitor ∧
    (s.withdraw i).balance = s.balance ∧ (s.withdraw i).engine = s.engine ∧
    (s.withdraw i).transfer = s.transfer ∧ (s.withdraw i).store = s.store := by
  unfold State.withdraw
  repeat' split
  all_goals simp

@[simp] theorem State.starve_keeps (s : State) :
    (s.starve.2).pending = s.pending ∧ (s.starve.2).powered = s.powered ∧ (s.starve.2).pins = s.pins ∧
    (s.starve.2).run = s.run ∧ (s.starve.2).travel = s.travel ∧ (s.starve.2).ring = s.ring ∧
    (s.starve.2).monitor = s.monitor ∧ (s.starve.2).balance = s.balance ∧ (s.starve.2).frames = s.frames ∧
    (s.starve.2).engine = s.engine ∧ (s.starve.2).transfer = s.transfer ∧ (s.starve.2).store = s.store := by
  simp [State.starve]

@[simp] theorem State.allocate_keeps (n : Option Nat) (t : Trigger) (s : State) :
    ((s.allocate n t).2).pending = s.pending ∧ ((s.allocate n t).2).powered = s.powered ∧
    ((s.allocate n t).2).pins = s.pins ∧ ((s.allocate n t).2).run = s.run ∧
    ((s.allocate n t).2).travel = s.travel ∧ ((s.allocate n t).2).monitor = s.monitor ∧
    ((s.allocate n t).2).balance = s.balance ∧ ((s.allocate n t).2).transfer = s.transfer ∧
    ((s.allocate n t).2).store = s.store := by
  unfold State.allocate
  repeat' split
  all_goals simp

@[simp] theorem State.serve_keeps (t : Trigger) (s : State) :
    ((s.serve t).2).pending = s.pending ∧ ((s.serve t).2).powered = s.powered ∧
    ((s.serve t).2).pins = s.pins ∧ ((s.serve t).2).travel = s.travel ∧
    ((s.serve t).2).monitor = s.monitor ∧ ((s.serve t).2).balance = s.balance ∧
    ((s.serve t).2).transfer = s.transfer ∧ ((s.serve t).2).store = s.store := by
  unfold State.serve
  dsimp only
  repeat' split
  all_goals simp

@[simp] theorem State.takeTrigger_keeps (t : Trigger) (s : State) :
    ((s.takeTrigger t).2).pending = s.pending ∧ ((s.takeTrigger t).2).powered = s.powered ∧
    ((s.takeTrigger t).2).pins = s.pins ∧ ((s.takeTrigger t).2).travel = s.travel ∧
    ((s.takeTrigger t).2).monitor = s.monitor ∧ ((s.takeTrigger t).2).balance = s.balance ∧
    ((s.takeTrigger t).2).transfer = s.transfer ∧ ((s.takeTrigger t).2).store = s.store := by
  unfold State.takeTrigger
  dsimp only
  repeat' split
  all_goals simp

@[simp] theorem State.servePending_keeps (s : State) :
    (s.servePending).pending = s.pending ∧ (s.servePending).powered = s.powered ∧
    (s.servePending).pins = s.pins ∧ (s.servePending).travel = s.travel ∧
    (s.servePending).monitor = s.monitor ∧ (s.servePending).balance = s.balance ∧
    (s.servePending).transfer = s.transfer ∧ (s.servePending).store = s.store := by
  unfold State.servePending
  repeat' split
  all_goals simp

@[simp] theorem State.beginReading_keeps (i : Fin 6) (k : Bool) (s : State) :
    (s.beginReading i k).pending = s.pending ∧ (s.beginReading i k).powered = s.powered ∧
    (s.beginReading i k).pins = s.pins ∧ (s.beginReading i k).line = s.line ∧
    (s.beginReading i k).run = s.run ∧ (s.beginReading i k).travel = s.travel ∧
    (s.beginReading i k).ring = s.ring ∧ (s.beginReading i k).monitor = s.monitor ∧
    (s.beginReading i k).balance = s.balance ∧ (s.beginReading i k).engine = s.engine ∧
    (s.beginReading i k).transfer = s.transfer ∧ (s.beginReading i k).store = s.store := by
  simp [State.beginReading]

@[simp] theorem State.handOver_keeps (x : StrobeTarget) (k : Bool) (s : State) :
    (s.handOver x k).pending = s.pending ∧ (s.handOver x k).powered = s.powered ∧
    (s.handOver x k).pins = s.pins ∧ (s.handOver x k).line = s.line ∧ (s.handOver x k).run = s.run ∧
    (s.handOver x k).travel = s.travel ∧ (s.handOver x k).ring = s.ring ∧
    (s.handOver x k).monitor = s.monitor ∧ (s.handOver x k).balance = s.balance ∧
    (s.handOver x k).engine = s.engine ∧ (s.handOver x k).transfer = s.transfer ∧
    (s.handOver x k).store = s.store := by
  unfold State.handOver
  repeat' split
  all_goals simp

@[simp] theorem State.cutByTrip_keeps (s : State) :
    (s.cutByTrip).pending = s.pending ∧ (s.cutByTrip).powered = s.powered ∧ (s.cutByTrip).pins = s.pins ∧
    (s.cutByTrip).line = s.line ∧ (s.cutByTrip).run = s.run ∧ (s.cutByTrip).travel = s.travel ∧
    (s.cutByTrip).monitor = s.monitor ∧ (s.cutByTrip).balance = s.balance ∧
    (s.cutByTrip).engine = s.engine ∧ (s.cutByTrip).transfer = s.transfer ∧
    (s.cutByTrip).store = s.store := by
  unfold State.cutByTrip
  repeat' split
  all_goals simp

@[simp] theorem State.endStartup_keeps (s : State) :
    (s.endStartup).pending = s.pending ∧ (s.endStartup).powered = s.powered ∧
    (s.endStartup).pins = s.pins ∧ (s.endStartup).travel = s.travel ∧ (s.endStartup).ring = s.ring ∧
    (s.endStartup).monitor = s.monitor ∧ (s.endStartup).balance = s.balance ∧
    (s.endStartup).frames = s.frames ∧ (s.endStartup).engine = s.engine ∧
    (s.endStartup).transfer = s.transfer ∧ (s.endStartup).store = s.store := by
  simp [State.endStartup]

@[simp] theorem State.endDeferral_keeps (s : State) :
    (s.endDeferral).pending = s.pending ∧ (s.endDeferral).powered = s.powered ∧
    (s.endDeferral).pins = s.pins ∧ (s.endDeferral).travel = s.travel ∧
    (s.endDeferral).monitor = s.monitor ∧ (s.endDeferral).transfer = s.transfer ∧
    (s.endDeferral).store = s.store := by
  unfold State.endDeferral
  repeat' split
  all_goals simp

@[simp] theorem State.endSelfTest_keeps (s : State) :
    (s.endSelfTest).pending = s.pending ∧ (s.endSelfTest).powered = s.powered ∧
    (s.endSelfTest).pins = s.pins ∧ (s.endSelfTest).travel = s.travel ∧ (s.endSelfTest).ring = s.ring ∧
    (s.endSelfTest).monitor = s.monitor ∧ (s.endSelfTest).balance = s.balance ∧
    (s.endSelfTest).frames = s.frames ∧ (s.endSelfTest).engine = s.engine ∧
    (s.endSelfTest).transfer = s.transfer ∧ (s.endSelfTest).store = s.store := by
  unfold State.endSelfTest
  repeat' split
  all_goals simp

@[simp] theorem State.enterLockout_keeps (r : LockoutReason) (s : State) :
    (s.enterLockout r).pending = s.pending ∧ (s.enterLockout r).powered = s.powered ∧
    (s.enterLockout r).pins = s.pins ∧ (s.enterLockout r).monitor = s.monitor ∧
    (s.enterLockout r).transfer = s.transfer ∧ (s.enterLockout r).store = s.store := by
  unfold State.enterLockout
  dsimp only
  repeat' split
  all_goals simp

@[simp] theorem State.testRelease_keeps (r : LockoutReason) (s : State) :
    (s.testRelease r).pending = s.pending ∧ (s.testRelease r).powered = s.powered ∧
    (s.testRelease r).pins = s.pins ∧ (s.testRelease r).line = s.line ∧ (s.testRelease r).run = s.run ∧
    (s.testRelease r).travel = s.travel ∧ (s.testRelease r).monitor = s.monitor ∧
    (s.testRelease r).balance = s.balance ∧ (s.testRelease r).frames = s.frames ∧
    (s.testRelease r).engine = s.engine ∧ (s.testRelease r).transfer = s.transfer ∧
    (s.testRelease r).store = s.store := by
  unfold State.testRelease
  all_goals simp

end Sys2Proof.Machine
end

