-- ==== Sys2Proof/Laws/Line.lean ====
section
/-! SUPPORT. The line interface and the tile sender: the blocks each operation leaves as they are. -/

namespace Sys2Proof.Machine

@[simp] theorem State.startMessage_keeps (s : State) :
    (s.startMessage).pending = s.pending ∧ (s.startMessage).powered = s.powered ∧
    (s.startMessage).pins = s.pins ∧ (s.startMessage).run = s.run ∧ (s.startMessage).travel = s.travel ∧
    (s.startMessage).ring = s.ring ∧ (s.startMessage).monitor = s.monitor ∧
    (s.startMessage).balance = s.balance ∧ (s.startMessage).frames = s.frames ∧
    (s.startMessage).engine = s.engine ∧ (s.startMessage).transfer = s.transfer ∧
    (s.startMessage).store = s.store := by
  unfold State.startMessage
  (repeat' split) <;> simp

@[simp] theorem State.startTile_keeps (s : State) :
    (s.startTile).pending = s.pending ∧ (s.startTile).powered = s.powered ∧ (s.startTile).pins = s.pins ∧
    (s.startTile).run = s.run ∧ (s.startTile).travel = s.travel ∧ (s.startTile).ring = s.ring ∧
    (s.startTile).monitor = s.monitor ∧ (s.startTile).balance = s.balance ∧
    (s.startTile).frames = s.frames ∧ (s.startTile).engine = s.engine ∧ (s.startTile).store = s.store := by
  unfold State.startTile
  (repeat' split) <;> simp

@[simp] theorem State.endTransfer_keeps (i : Fin 6) (s : State) :
    (s.endTransfer i).pending = s.pending ∧ (s.endTransfer i).powered = s.powered ∧
    (s.endTransfer i).pins = s.pins ∧ (s.endTransfer i).line = s.line ∧ (s.endTransfer i).run = s.run ∧
    (s.endTransfer i).travel = s.travel ∧ (s.endTransfer i).ring = s.ring ∧
    (s.endTransfer i).monitor = s.monitor ∧ (s.endTransfer i).balance = s.balance ∧
    (s.endTransfer i).store = s.store := by
  unfold State.endTransfer
  dsimp only
  (repeat' split) <;> simp

@[simp] theorem State.stopSlot_keeps (i : Fin 6) (k : Bool) (s : State) :
    (s.stopSlot i k).pending = s.pending ∧ (s.stopSlot i k).powered = s.powered ∧
    (s.stopSlot i k).pins = s.pins ∧ (s.stopSlot i k).line = s.line ∧ (s.stopSlot i k).run = s.run ∧
    (s.stopSlot i k).travel = s.travel ∧ (s.stopSlot i k).ring = s.ring ∧
    (s.stopSlot i k).monitor = s.monitor ∧ (s.stopSlot i k).balance = s.balance ∧
    (s.stopSlot i k).transfer = s.transfer ∧ (s.stopSlot i k).store = s.store := by
  unfold State.stopSlot
  (repeat' split) <;> simp

@[simp] theorem State.stopEffect_keeps (i : Fin 6) (k : Bool) (s : State) :
    (s.stopEffect i k).pending = s.pending ∧ (s.stopEffect i k).powered = s.powered ∧
    (s.stopEffect i k).pins = s.pins ∧ (s.stopEffect i k).run = s.run ∧
    (s.stopEffect i k).travel = s.travel ∧ (s.stopEffect i k).ring = s.ring ∧
    (s.stopEffect i k).monitor = s.monitor ∧ (s.stopEffect i k).balance = s.balance ∧
    (s.stopEffect i k).store = s.store := by
  unfold State.stopEffect
  dsimp only
  simp

@[simp] theorem State.waitingStop_keeps (s : State) :
    (s.waitingStop).pending = s.pending ∧ (s.waitingStop).powered = s.powered ∧
    (s.waitingStop).pins = s.pins ∧ (s.waitingStop).run = s.run ∧ (s.waitingStop).travel = s.travel ∧
    (s.waitingStop).ring = s.ring ∧ (s.waitingStop).monitor = s.monitor ∧
    (s.waitingStop).balance = s.balance ∧ (s.waitingStop).store = s.store := by
  unfold State.waitingStop
  (repeat' split) <;> simp

@[simp] theorem State.tileSent_keeps (s : State) :
    (s.tileSent).pending = s.pending ∧ (s.tileSent).powered = s.powered ∧ (s.tileSent).pins = s.pins ∧
    (s.tileSent).run = s.run ∧ (s.tileSent).travel = s.travel ∧ (s.tileSent).ring = s.ring ∧
    (s.tileSent).monitor = s.monitor ∧ (s.tileSent).balance = s.balance ∧ (s.tileSent).store = s.store := by
  unfold State.tileSent
  dsimp only
  (repeat' split) <;> simp

@[simp] theorem State.softReset_keeps (s : State) :
    (s.softReset).pending = s.pending ∧ (s.softReset).powered = s.powered ∧ (s.softReset).pins = s.pins := by
  unfold State.softReset
  dsimp only
  simp

@[simp] theorem State.powerOnReset_keeps (s : State) :
    (s.powerOnReset).pending = s.pending ∧ (s.powerOnReset).powered = s.powered ∧
    (s.powerOnReset).pins = s.pins := by
  unfold State.powerOnReset
  dsimp only
  simp

@[simp] theorem State.messageSent_keeps (s : State) :
    (s.messageSent).pending = s.pending ∧ (s.messageSent).powered = s.powered ∧
    (s.messageSent).pins = s.pins := by
  unfold State.messageSent
  (repeat' split) <;> simp

@[simp] theorem State.restartSilence_keeps (s : State) :
    (s.restartSilence).pending = s.pending ∧ (s.restartSilence).powered = s.powered ∧
    (s.restartSilence).pins = s.pins ∧ (s.restartSilence).line = s.line ∧
    (s.restartSilence).travel = s.travel ∧ (s.restartSilence).ring = s.ring ∧
    (s.restartSilence).monitor = s.monitor ∧ (s.restartSilence).balance = s.balance ∧
    (s.restartSilence).frames = s.frames ∧ (s.restartSilence).engine = s.engine ∧
    (s.restartSilence).transfer = s.transfer ∧ (s.restartSilence).store = s.store := by
  unfold State.restartSilence
  dsimp only
  (repeat' split) <;> simp

@[simp] theorem State.gathered_keeps (bytes : List Byte) (s : State) :
    (s.gathered bytes).pending = s.pending ∧ (s.gathered bytes).powered = s.powered ∧
    (s.gathered bytes).pins = s.pins ∧ (s.gathered bytes).travel = s.travel ∧
    (s.gathered bytes).ring = s.ring ∧ (s.gathered bytes).monitor = s.monitor ∧
    (s.gathered bytes).balance = s.balance ∧ (s.gathered bytes).frames = s.frames ∧
    (s.gathered bytes).engine = s.engine ∧ (s.gathered bytes).transfer = s.transfer ∧
    (s.gathered bytes).store = s.store := by
  unfold State.gathered
  (repeat' split) <;> simp

@[simp] theorem State.receiveByte_keeps (x : Byte) (s : State) :
    (s.receiveByte x).pending = s.pending ∧ (s.receiveByte x).powered = s.powered ∧
    (s.receiveByte x).pins = s.pins ∧ (s.receiveByte x).travel = s.travel ∧
    (s.receiveByte x).ring = s.ring ∧ (s.receiveByte x).monitor = s.monitor ∧
    (s.receiveByte x).balance = s.balance ∧ (s.receiveByte x).frames = s.frames ∧
    (s.receiveByte x).engine = s.engine ∧ (s.receiveByte x).transfer = s.transfer ∧
    (s.receiveByte x).store = s.store := by
  unfold State.receiveByte
  (repeat' split) <;> simp

@[simp] theorem State.gapExpired_keeps (s : State) :
    (s.gapExpired).pending = s.pending ∧ (s.gapExpired).powered = s.powered ∧
    (s.gapExpired).pins = s.pins ∧ (s.gapExpired).run = s.run ∧ (s.gapExpired).travel = s.travel ∧
    (s.gapExpired).ring = s.ring ∧ (s.gapExpired).monitor = s.monitor ∧
    (s.gapExpired).balance = s.balance ∧ (s.gapExpired).frames = s.frames ∧
    (s.gapExpired).engine = s.engine ∧ (s.gapExpired).transfer = s.transfer ∧
    (s.gapExpired).store = s.store := by
  unfold State.gapExpired
  (repeat' split) <;> simp

@[simp] theorem State.getParam_keeps (body : List Byte) (s : State) :
    (s.getParam body).pending = s.pending ∧ (s.getParam body).powered = s.powered ∧
    (s.getParam body).pins = s.pins ∧ (s.getParam body).run = s.run ∧
    (s.getParam body).travel = s.travel ∧ (s.getParam body).ring = s.ring ∧
    (s.getParam body).monitor = s.monitor ∧ (s.getParam body).balance = s.balance ∧
    (s.getParam body).frames = s.frames ∧ (s.getParam body).engine = s.engine ∧
    (s.getParam body).transfer = s.transfer ∧ (s.getParam body).store = s.store := by
  unfold State.getParam
  dsimp only
  (repeat' split) <;> simp

@[simp] theorem State.putParam_keeps (p : Param) (v : Nat) (s : State) :
    (s.putParam p v).pending = s.pending ∧ (s.putParam p v).powered = s.powered ∧
    (s.putParam p v).pins = s.pins ∧ (s.putParam p v).run = s.run ∧ (s.putParam p v).ring = s.ring ∧
    (s.putParam p v).monitor = s.monitor ∧ (s.putParam p v).balance = s.balance ∧
    (s.putParam p v).frames = s.frames ∧ (s.putParam p v).engine = s.engine ∧
    (s.putParam p v).transfer = s.transfer ∧ (s.putParam p v).store = s.store := by
  unfold State.putParam
  dsimp only
  (repeat' split) <;> simp

@[simp] theorem State.setParam_keeps (body : List Byte) (s : State) :
    (s.setParam body).pending = s.pending ∧ (s.setParam body).powered = s.powered ∧
    (s.setParam body).pins = s.pins ∧ (s.setParam body).run = s.run ∧ (s.setParam body).ring = s.ring ∧
    (s.setParam body).monitor = s.monitor ∧ (s.setParam body).balance = s.balance ∧
    (s.setParam body).frames = s.frames ∧ (s.setParam body).engine = s.engine ∧
    (s.setParam body).transfer = s.transfer ∧ (s.setParam body).store = s.store := by
  unfold State.setParam
  dsimp only
  (repeat' split) <;> simp

@[simp] theorem State.testAllReleases_keeps (s : State) :
    (s.testAllReleases).pending = s.pending ∧ (s.testAllReleases).powered = s.powered ∧
    (s.testAllReleases).pins = s.pins ∧ (s.testAllReleases).line = s.line ∧
    (s.testAllReleases).run = s.run ∧ (s.testAllReleases).travel = s.travel ∧
    (s.testAllReleases).monitor = s.monitor ∧ (s.testAllReleases).balance = s.balance ∧
    (s.testAllReleases).frames = s.frames ∧ (s.testAllReleases).engine = s.engine ∧
    (s.testAllReleases).transfer = s.transfer ∧ (s.testAllReleases).store = s.store := by
  unfold State.testAllReleases
  simp

@[simp] theorem State.clearFlags_keeps (m : Nat) (s : State) :
    (s.clearFlags m).pending = s.pending ∧ (s.clearFlags m).powered = s.powered ∧
    (s.clearFlags m).pins = s.pins ∧ (s.clearFlags m).run = s.run ∧ (s.clearFlags m).travel = s.travel ∧
    (s.clearFlags m).monitor = s.monitor ∧ (s.clearFlags m).balance = s.balance ∧
    (s.clearFlags m).frames = s.frames ∧ (s.clearFlags m).engine = s.engine ∧
    (s.clearFlags m).transfer = s.transfer ∧ (s.clearFlags m).store = s.store := by
  unfold State.clearFlags
  simp

@[simp] theorem State.clearConditions_keeps (body : List Byte) (s : State) :
    (s.clearConditions body).pending = s.pending ∧ (s.clearConditions body).powered = s.powered ∧
    (s.clearConditions body).pins = s.pins ∧ (s.clearConditions body).run = s.run ∧
    (s.clearConditions body).travel = s.travel ∧ (s.clearConditions body).monitor = s.monitor ∧
    (s.clearConditions body).balance = s.balance ∧ (s.clearConditions body).frames = s.frames ∧
    (s.clearConditions body).engine = s.engine ∧ (s.clearConditions body).transfer = s.transfer ∧
    (s.clearConditions body).store = s.store := by
  unfold State.clearConditions
  dsimp only
  (repeat' split) <;> simp

@[simp] theorem State.unknownKind_keeps (kind tag : Byte) (body : List Byte) (s : State) :
    (s.unknownKind kind tag body).pending = s.pending ∧
    (s.unknownKind kind tag body).powered = s.powered ∧ (s.unknownKind kind tag body).pins = s.pins ∧
    (s.unknownKind kind tag body).run = s.run ∧ (s.unknownKind kind tag body).travel = s.travel ∧
    (s.unknownKind kind tag body).ring = s.ring ∧ (s.unknownKind kind tag body).monitor = s.monitor ∧
    (s.unknownKind kind tag body).balance = s.balance ∧ (s.unknownKind kind tag body).frames = s.frames ∧
    (s.unknownKind kind tag body).engine = s.engine ∧
    (s.unknownKind kind tag body).transfer = s.transfer ∧ (s.unknownKind kind tag body).store = s.store := by
  unfold State.unknownKind
  (repeat' split) <;> simp

@[simp] theorem State.releaseNamed_keeps (i : Fin 6) (f : Frame) (s : State) :
    (s.releaseNamed i f).pending = s.pending ∧ (s.releaseNamed i f).powered = s.powered ∧
    (s.releaseNamed i f).pins = s.pins ∧ (s.releaseNamed i f).run = s.run ∧
    (s.releaseNamed i f).travel = s.travel ∧ (s.releaseNamed i f).ring = s.ring ∧
    (s.releaseNamed i f).monitor = s.monitor ∧ (s.releaseNamed i f).balance = s.balance ∧
    (s.releaseNamed i f).transfer = s.transfer ∧ (s.releaseNamed i f).store = s.store := by
  unfold State.releaseNamed
  dsimp only
  (repeat' split) <;> simp

@[simp] theorem State.releaseFrame_keeps (body : List Byte) (s : State) :
    (s.releaseFrame body).pending = s.pending ∧ (s.releaseFrame body).powered = s.powered ∧
    (s.releaseFrame body).pins = s.pins ∧ (s.releaseFrame body).run = s.run ∧
    (s.releaseFrame body).travel = s.travel ∧ (s.releaseFrame body).ring = s.ring ∧
    (s.releaseFrame body).monitor = s.monitor ∧ (s.releaseFrame body).balance = s.balance ∧
    (s.releaseFrame body).transfer = s.transfer ∧ (s.releaseFrame body).store = s.store := by
  unfold State.releaseFrame
  (repeat' split) <;> simp

@[simp] theorem State.startTransfer_keeps (i : Fin 6) (f : Frame) (t : Option Nat) (n : Nat) (s : State) :
    (s.startTransfer i f t n).pending = s.pending ∧ (s.startTransfer i f t n).powered = s.powered ∧
    (s.startTransfer i f t n).pins = s.pins ∧ (s.startTransfer i f t n).run = s.run ∧
    (s.startTransfer i f t n).travel = s.travel ∧ (s.startTransfer i f t n).ring = s.ring ∧
    (s.startTransfer i f t n).monitor = s.monitor ∧ (s.startTransfer i f t n).balance = s.balance ∧
    (s.startTransfer i f t n).engine = s.engine ∧ (s.startTransfer i f t n).store = s.store := by
  unfold State.startTransfer
  dsimp only
  simp

@[simp] theorem State.addCredits_keeps (f : Frame) (t : Option Nat) (n : Nat) (s : State) :
    (s.addCredits f t n).pending = s.pending ∧ (s.addCredits f t n).powered = s.powered ∧
    (s.addCredits f t n).pins = s.pins ∧ (s.addCredits f t n).run = s.run ∧
    (s.addCredits f t n).travel = s.travel ∧ (s.addCredits f t n).ring = s.ring ∧
    (s.addCredits f t n).monitor = s.monitor ∧ (s.addCredits f t n).balance = s.balance ∧
    (s.addCredits f t n).frames = s.frames ∧ (s.addCredits f t n).engine = s.engine ∧
    (s.addCredits f t n).store = s.store := by
  unfold State.addCredits
  dsimp only
  (repeat' split) <;> simp

@[simp] theorem State.grantNamed_keeps (i : Fin 6) (f : Frame) (t : Option Nat) (n : Nat) (s : State) :
    (s.grantNamed i f t n).pending = s.pending ∧ (s.grantNamed i f t n).powered = s.powered ∧
    (s.grantNamed i f t n).pins = s.pins ∧ (s.grantNamed i f t n).run = s.run ∧
    (s.grantNamed i f t n).travel = s.travel ∧ (s.grantNamed i f t n).ring = s.ring ∧
    (s.grantNamed i f t n).monitor = s.monitor ∧ (s.grantNamed i f t n).balance = s.balance ∧
    (s.grantNamed i f t n).engine = s.engine ∧ (s.grantNamed i f t n).store = s.store := by
  unfold State.grantNamed
  (repeat' split) <;> simp

@[simp] theorem State.transferGrant_keeps (body : List Byte) (s : State) :
    (s.transferGrant body).pending = s.pending ∧ (s.transferGrant body).powered = s.powered ∧
    (s.transferGrant body).pins = s.pins ∧ (s.transferGrant body).run = s.run ∧
    (s.transferGrant body).travel = s.travel ∧ (s.transferGrant body).ring = s.ring ∧
    (s.transferGrant body).monitor = s.monitor ∧ (s.transferGrant body).balance = s.balance ∧
    (s.transferGrant body).engine = s.engine ∧ (s.transferGrant body).store = s.store := by
  unfold State.transferGrant
  (repeat' split) <;> simp

@[simp] theorem State.acceptStop_keeps (i : Fin 6) (k : Bool) (s : State) :
    (s.acceptStop i k).pending = s.pending ∧ (s.acceptStop i k).powered = s.powered ∧
    (s.acceptStop i k).pins = s.pins ∧ (s.acceptStop i k).run = s.run ∧
    (s.acceptStop i k).travel = s.travel ∧ (s.acceptStop i k).ring = s.ring ∧
    (s.acceptStop i k).monitor = s.monitor ∧ (s.acceptStop i k).balance = s.balance ∧
    (s.acceptStop i k).store = s.store := by
  unfold State.acceptStop
  (repeat' split) <;> simp

@[simp] theorem State.transferStop_keeps (n k : Bool) (body : List Byte) (s : State) :
    (s.transferStop n k body).pending = s.pending ∧ (s.transferStop n k body).powered = s.powered ∧
    (s.transferStop n k body).pins = s.pins ∧ (s.transferStop n k body).run = s.run ∧
    (s.transferStop n k body).travel = s.travel ∧ (s.transferStop n k body).ring = s.ring ∧
    (s.transferStop n k body).monitor = s.monitor ∧ (s.transferStop n k body).balance = s.balance ∧
    (s.transferStop n k body).store = s.store := by
  unfold State.transferStop
  (repeat' split) <;> simp

end Sys2Proof.Machine
end

