-- ==== Sys2Proof/Laws/Runs.lean ====
section
/-! SUPPORT. The run controller and the travel counter: the blocks each operation leaves as they are. -/

namespace Sys2Proof.Machine

@[simp] theorem State.openNewRun_keeps (m : RunMode) (n : Nat) (s : State) :
    (s.openNewRun m n).pending = s.pending ∧ (s.openNewRun m n).powered = s.powered ∧
    (s.openNewRun m n).pins = s.pins ∧ (s.openNewRun m n).line = s.line ∧
    (s.openNewRun m n).ring = s.ring ∧ (s.openNewRun m n).monitor = s.monitor ∧
    (s.openNewRun m n).balance = s.balance ∧ (s.openNewRun m n).frames = s.frames ∧
    (s.openNewRun m n).engine = s.engine ∧ (s.openNewRun m n).transfer = s.transfer ∧
    (s.openNewRun m n).store = s.store := by
  unfold State.openNewRun
  dsimp only
  (repeat' split) <;> simp

@[simp] theorem State.acceptRun_keeps (m : RunMode) (n : Nat) (k : Bool) (s : State) :
    (s.acceptRun m n k).pending = s.pending ∧ (s.acceptRun m n k).powered = s.powered ∧
    (s.acceptRun m n k).pins = s.pins ∧ (s.acceptRun m n k).monitor = s.monitor ∧
    (s.acceptRun m n k).balance = s.balance ∧ (s.acceptRun m n k).transfer = s.transfer ∧
    (s.acceptRun m n k).store = s.store := by
  unfold State.acceptRun
  dsimp only
  (repeat' split) <;> simp

@[simp] theorem State.runStart_keeps (body : List Byte) (s : State) :
    (s.runStart body).pending = s.pending ∧ (s.runStart body).powered = s.powered ∧
    (s.runStart body).pins = s.pins ∧ (s.runStart body).monitor = s.monitor ∧
    (s.runStart body).balance = s.balance ∧ (s.runStart body).transfer = s.transfer ∧
    (s.runStart body).store = s.store := by
  unfold State.runStart
  (repeat' split) <;> simp

@[simp] theorem State.runStop_keeps (s : State) :
    (s.runStop).pending = s.pending ∧ (s.runStop).powered = s.powered ∧ (s.runStop).pins = s.pins ∧
    (s.runStop).monitor = s.monitor ∧ (s.runStop).transfer = s.transfer ∧ (s.runStop).store = s.store := by
  unfold State.runStop
  (repeat' split) <;> simp

@[simp] theorem State.hostTrigger_keeps (s : State) :
    (s.hostTrigger).pending = s.pending ∧ (s.hostTrigger).powered = s.powered ∧
    (s.hostTrigger).pins = s.pins ∧ (s.hostTrigger).travel = s.travel ∧
    (s.hostTrigger).monitor = s.monitor ∧ (s.hostTrigger).balance = s.balance ∧
    (s.hostTrigger).transfer = s.transfer ∧ (s.hostTrigger).store = s.store := by
  unfold State.hostTrigger
  dsimp only
  (repeat' split) <;> simp

@[simp] theorem State.single_keeps (s : State) :
    (s.single).pending = s.pending ∧ (s.single).powered = s.powered ∧ (s.single).pins = s.pins ∧
    (s.single).travel = s.travel ∧ (s.single).monitor = s.monitor ∧ (s.single).balance = s.balance ∧
    (s.single).transfer = s.transfer ∧ (s.single).store = s.store := by
  unfold State.single
  dsimp only
  (repeat' split) <;> simp

@[simp] theorem State.park_keeps (s : State) :
    (s.park).pending = s.pending ∧ (s.park).powered = s.powered ∧ (s.park).pins = s.pins ∧
    (s.park).monitor = s.monitor ∧ (s.park).transfer = s.transfer ∧ (s.park).store = s.store := by
  unfold State.park
  (repeat' split) <;> simp

@[simp] theorem State.startScan_keeps (s : State) :
    (s.startScan).pending = s.pending ∧ (s.startScan).powered = s.powered ∧ (s.startScan).pins = s.pins ∧
    (s.startScan).line = s.line ∧ (s.startScan).run = s.run ∧ (s.startScan).travel = s.travel ∧
    (s.startScan).ring = s.ring ∧ (s.startScan).balance = s.balance ∧ (s.startScan).frames = s.frames ∧
    (s.startScan).engine = s.engine ∧ (s.startScan).transfer = s.transfer ∧
    (s.startScan).store = s.store := by
  unfold State.startScan
  dsimp only
  simp

@[simp] theorem State.beginWaking_keeps (w : WakeReason) (s : State) :
    (s.beginWaking w).pending = s.pending ∧ (s.beginWaking w).powered = s.powered ∧
    (s.beginWaking w).pins = s.pins ∧ (s.beginWaking w).line = s.line ∧ (s.beginWaking w).ring = s.ring ∧
    (s.beginWaking w).balance = s.balance ∧ (s.beginWaking w).transfer = s.transfer ∧
    (s.beginWaking w).store = s.store := by
  unfold State.beginWaking
  dsimp only
  simp

@[simp] theorem State.wake_keeps (s : State) :
    (s.wake).pending = s.pending ∧ (s.wake).powered = s.powered ∧ (s.wake).pins = s.pins ∧
    (s.wake).ring = s.ring ∧ (s.wake).balance = s.balance ∧ (s.wake).transfer = s.transfer ∧
    (s.wake).store = s.store := by
  unfold State.wake
  (repeat' split) <;> simp

@[simp] theorem State.beginDormant_keeps (s : State) :
    (s.beginDormant).pending = s.pending ∧ (s.beginDormant).powered = s.powered ∧
    (s.beginDormant).pins = s.pins ∧ (s.beginDormant).line = s.line ∧ (s.beginDormant).ring = s.ring ∧
    (s.beginDormant).balance = s.balance ∧ (s.beginDormant).frames = s.frames ∧
    (s.beginDormant).engine = s.engine ∧ (s.beginDormant).transfer = s.transfer ∧
    (s.beginDormant).store = s.store := by
  unfold State.beginDormant
  dsimp only
  simp

@[simp] theorem State.sleep_keeps (s : State) :
    (s.sleep).pending = s.pending ∧ (s.sleep).powered = s.powered ∧ (s.sleep).pins = s.pins ∧
    (s.sleep).ring = s.ring ∧ (s.sleep).balance = s.balance ∧ (s.sleep).frames = s.frames ∧
    (s.sleep).engine = s.engine ∧ (s.sleep).transfer = s.transfer ∧ (s.sleep).store = s.store := by
  unfold State.sleep
  (repeat' split) <;> simp

@[simp] theorem State.intervalExpired_keeps (s : State) :
    (s.intervalExpired).pending = s.pending ∧ (s.intervalExpired).powered = s.powered ∧
    (s.intervalExpired).pins = s.pins ∧ (s.intervalExpired).travel = s.travel ∧
    (s.intervalExpired).monitor = s.monitor ∧ (s.intervalExpired).balance = s.balance ∧
    (s.intervalExpired).transfer = s.transfer ∧ (s.intervalExpired).store = s.store := by
  unfold State.intervalExpired
  dsimp only
  (repeat' split) <;> simp

@[simp] theorem State.silenceExpired_keeps (s : State) :
    (s.silenceExpired).pending = s.pending ∧ (s.silenceExpired).powered = s.powered ∧
    (s.silenceExpired).pins = s.pins ∧ (s.silenceExpired).monitor = s.monitor ∧
    (s.silenceExpired).transfer = s.transfer ∧ (s.silenceExpired).store = s.store := by
  unfold State.silenceExpired
  dsimp only
  (repeat' split) <;> simp

@[simp] theorem State.wakeSettled_keeps (s : State) :
    (s.wakeSettled).pending = s.pending ∧ (s.wakeSettled).powered = s.powered ∧
    (s.wakeSettled).pins = s.pins ∧ (s.wakeSettled).travel = s.travel ∧ (s.wakeSettled).ring = s.ring ∧
    (s.wakeSettled).monitor = s.monitor ∧ (s.wakeSettled).balance = s.balance ∧
    (s.wakeSettled).frames = s.frames ∧ (s.wakeSettled).engine = s.engine ∧
    (s.wakeSettled).transfer = s.transfer ∧ (s.wakeSettled).store = s.store := by
  unfold State.wakeSettled
  (repeat' split) <;> simp

@[simp] theorem State.distanceTrigger_keeps (k : Bool) (s : State) :
    (s.distanceTrigger k).pending = s.pending ∧ (s.distanceTrigger k).powered = s.powered ∧
    (s.distanceTrigger k).pins = s.pins ∧ (s.distanceTrigger k).travel = s.travel ∧
    (s.distanceTrigger k).monitor = s.monitor ∧ (s.distanceTrigger k).balance = s.balance ∧
    (s.distanceTrigger k).transfer = s.transfer ∧ (s.distanceTrigger k).store = s.store := by
  unfold State.distanceTrigger
  (repeat' split) <;> simp

@[simp] theorem State.motionWake_keeps (s : State) :
    (s.motionWake).pending = s.pending ∧ (s.motionWake).powered = s.powered ∧
    (s.motionWake).pins = s.pins ∧ (s.motionWake).line = s.line ∧ (s.motionWake).ring = s.ring ∧
    (s.motionWake).balance = s.balance ∧ (s.motionWake).transfer = s.transfer ∧
    (s.motionWake).store = s.store := by
  unfold State.motionWake
  (repeat' split) <;> simp

@[simp] theorem State.countEdge_keeps (k x y : Bool) (n : Nat) (s : State) :
    (s.countEdge k x y n).pending = s.pending ∧ (s.countEdge k x y n).powered = s.powered ∧
    (s.countEdge k x y n).pins = s.pins ∧ (s.countEdge k x y n).balance = s.balance ∧
    (s.countEdge k x y n).transfer = s.transfer ∧ (s.countEdge k x y n).store = s.store := by
  unfold State.countEdge
  dsimp only
  simp

@[simp] theorem State.quadrature_keeps (x y : Bool) (n : Nat) (s : State) :
    (s.quadrature x y n).pending = s.pending ∧ (s.quadrature x y n).powered = s.powered ∧
    (s.quadrature x y n).pins = s.pins ∧ (s.quadrature x y n).balance = s.balance ∧
    (s.quadrature x y n).transfer = s.transfer ∧ (s.quadrature x y n).store = s.store := by
  unfold State.quadrature
  (repeat' split) <;> simp

@[simp] theorem State.setPosition_keeps (body : List Byte) (s : State) :
    (s.setPosition body).pending = s.pending ∧ (s.setPosition body).powered = s.powered ∧
    (s.setPosition body).pins = s.pins ∧ (s.setPosition body).run = s.run ∧
    (s.setPosition body).ring = s.ring ∧ (s.setPosition body).monitor = s.monitor ∧
    (s.setPosition body).balance = s.balance ∧ (s.setPosition body).frames = s.frames ∧
    (s.setPosition body).engine = s.engine ∧ (s.setPosition body).transfer = s.transfer ∧
    (s.setPosition body).store = s.store := by
  unfold State.setPosition
  simp

end Sys2Proof.Machine
end

