-- ==== Sys2Proof/Laws/Light.lean ====
section
/-! SUPPORT. The ring driver and the supply monitor: the blocks each operation leaves as they are. -/

namespace Sys2Proof.Machine

@[simp] theorem State.putSegment_keeps (i : Fin 12) (g : Segment) (s : State) :
    (s.putSegment i g).pending = s.pending ∧ (s.putSegment i g).powered = s.powered ∧
    (s.putSegment i g).pins = s.pins ∧ (s.putSegment i g).line = s.line ∧ (s.putSegment i g).run = s.run ∧
    (s.putSegment i g).travel = s.travel ∧ (s.putSegment i g).monitor = s.monitor ∧
    (s.putSegment i g).balance = s.balance ∧ (s.putSegment i g).frames = s.frames ∧
    (s.putSegment i g).engine = s.engine ∧ (s.putSegment i g).transfer = s.transfer ∧
    (s.putSegment i g).store = s.store := by
  unfold State.putSegment
  simp

@[simp] theorem State.segmentSet_keeps (k : Bool) (g : Segment → Option Segment) (body : List Byte) (s : State) :
    (s.segmentSet k g body).pending = s.pending ∧ (s.segmentSet k g body).powered = s.powered ∧
    (s.segmentSet k g body).pins = s.pins ∧ (s.segmentSet k g body).run = s.run ∧
    (s.segmentSet k g body).travel = s.travel ∧ (s.segmentSet k g body).monitor = s.monitor ∧
    (s.segmentSet k g body).balance = s.balance ∧ (s.segmentSet k g body).frames = s.frames ∧
    (s.segmentSet k g body).engine = s.engine ∧ (s.segmentSet k g body).transfer = s.transfer ∧
    (s.segmentSet k g body).store = s.store := by
  unfold State.segmentSet
  dsimp only
  (repeat' split) <;> simp

@[simp] theorem State.lowSupplyTest_keeps (v : Int) (s : State) :
    (s.lowSupplyTest v).pending = s.pending ∧ (s.lowSupplyTest v).powered = s.powered ∧
    (s.lowSupplyTest v).pins = s.pins ∧ (s.lowSupplyTest v).transfer = s.transfer ∧
    (s.lowSupplyTest v).store = s.store := by
  unfold State.lowSupplyTest
  (repeat' split) <;> simp

@[simp] theorem State.derate_keeps (g : Fin 3) (v : Int) (s : State) :
    (s.derate g v).pending = s.pending ∧ (s.derate g v).powered = s.powered ∧
    (s.derate g v).pins = s.pins ∧ (s.derate g v).run = s.run ∧ (s.derate g v).travel = s.travel ∧
    (s.derate g v).ring = s.ring ∧ (s.derate g v).balance = s.balance ∧ (s.derate g v).frames = s.frames ∧
    (s.derate g v).engine = s.engine ∧ (s.derate g v).transfer = s.transfer ∧
    (s.derate g v).store = s.store := by
  unfold State.derate
  dsimp only
  (repeat' split) <;> simp

@[simp] theorem State.tripTest_keeps (v : Int) (s : State) :
    (s.tripTest v).pending = s.pending ∧ (s.tripTest v).powered = s.powered ∧
    (s.tripTest v).pins = s.pins ∧ (s.tripTest v).monitor = s.monitor ∧
    (s.tripTest v).transfer = s.transfer ∧ (s.tripTest v).store = s.store := by
  unfold State.tripTest
  (repeat' split) <;> simp

@[simp] theorem State.ringReading_keeps (g : Fin 3) (v : Int) (s : State) :
    (s.ringReading g v).pending = s.pending ∧ (s.ringReading g v).powered = s.powered ∧
    (s.ringReading g v).pins = s.pins ∧ (s.ringReading g v).transfer = s.transfer ∧
    (s.ringReading g v).store = s.store := by
  unfold State.ringReading
  simp

@[simp] theorem State.handOnReading_keeps (c : Channel) (v : Int) (s : State) :
    (s.handOnReading c v).pending = s.pending ∧ (s.handOnReading c v).powered = s.powered ∧
    (s.handOnReading c v).pins = s.pins ∧ (s.handOnReading c v).transfer = s.transfer ∧
    (s.handOnReading c v).store = s.store := by
  unfold State.handOnReading
  (repeat' split) <;> simp

@[simp] theorem State.scanEnded_keeps (n : Nat) (v : Int) (s : State) :
    (s.scanEnded n v).pending = s.pending ∧ (s.scanEnded n v).powered = s.powered ∧
    (s.scanEnded n v).pins = s.pins ∧ (s.scanEnded n v).transfer = s.transfer ∧
    (s.scanEnded n v).store = s.store := by
  unfold State.scanEnded
  dsimp only
  (repeat' split) <;> simp

@[simp] theorem State.startStrobeConversion_keeps (i : Fin 6) (n : Nat) (s : State) :
    (s.startStrobeConversion i n).pending = s.pending ∧
    (s.startStrobeConversion i n).powered = s.powered ∧ (s.startStrobeConversion i n).pins = s.pins ∧
    (s.startStrobeConversion i n).line = s.line ∧ (s.startStrobeConversion i n).run = s.run ∧
    (s.startStrobeConversion i n).travel = s.travel ∧ (s.startStrobeConversion i n).ring = s.ring ∧
    (s.startStrobeConversion i n).balance = s.balance ∧ (s.startStrobeConversion i n).frames = s.frames ∧
    (s.startStrobeConversion i n).engine = s.engine ∧
    (s.startStrobeConversion i n).transfer = s.transfer ∧ (s.startStrobeConversion i n).store = s.store := by
  unfold State.startStrobeConversion
  dsimp only
  simp

@[simp] theorem State.flagDroop_keeps (i : Fin 6) (n : Nat) (s : State) :
    (s.flagDroop i n).pending = s.pending ∧ (s.flagDroop i n).powered = s.powered ∧
    (s.flagDroop i n).pins = s.pins ∧ (s.flagDroop i n).line = s.line ∧ (s.flagDroop i n).run = s.run ∧
    (s.flagDroop i n).travel = s.travel ∧ (s.flagDroop i n).ring = s.ring ∧
    (s.flagDroop i n).monitor = s.monitor ∧ (s.flagDroop i n).balance = s.balance ∧
    (s.flagDroop i n).engine = s.engine ∧ (s.flagDroop i n).transfer = s.transfer ∧
    (s.flagDroop i n).store = s.store := by
  unfold State.flagDroop
  dsimp only
  simp

@[simp] theorem State.drooped_keeps (i : Fin 6) (n : Nat) (s : State) :
    (s.drooped i n).pending = s.pending ∧ (s.drooped i n).powered = s.powered ∧
    (s.drooped i n).pins = s.pins ∧ (s.drooped i n).run = s.run ∧ (s.drooped i n).travel = s.travel ∧
    (s.drooped i n).ring = s.ring ∧ (s.drooped i n).balance = s.balance ∧
    (s.drooped i n).engine = s.engine ∧ (s.drooped i n).transfer = s.transfer ∧
    (s.drooped i n).store = s.store := by
  unfold State.drooped
  simp

@[simp] theorem State.strobeConversionEnded_keeps (n : Nat) (s : State) :
    (s.strobeConversionEnded n).pending = s.pending ∧ (s.strobeConversionEnded n).powered = s.powered ∧
    (s.strobeConversionEnded n).pins = s.pins ∧ (s.strobeConversionEnded n).run = s.run ∧
    (s.strobeConversionEnded n).travel = s.travel ∧ (s.strobeConversionEnded n).ring = s.ring ∧
    (s.strobeConversionEnded n).balance = s.balance ∧ (s.strobeConversionEnded n).engine = s.engine ∧
    (s.strobeConversionEnded n).transfer = s.transfer ∧ (s.strobeConversionEnded n).store = s.store := by
  unfold State.strobeConversionEnded
  dsimp only
  (repeat' split) <;> simp

@[simp] theorem State.startStrobe_keeps (i : Fin 6) (s : State) :
    (s.startStrobe i).pending = s.pending ∧ (s.startStrobe i).powered = s.powered ∧
    (s.startStrobe i).pins = s.pins ∧ (s.startStrobe i).run = s.run ∧
    (s.startStrobe i).travel = s.travel ∧ (s.startStrobe i).monitor = s.monitor ∧
    (s.startStrobe i).balance = s.balance ∧ (s.startStrobe i).engine = s.engine ∧
    (s.startStrobe i).transfer = s.transfer ∧ (s.startStrobe i).store = s.store := by
  unfold State.startStrobe
  dsimp only
  (repeat' split) <;> simp

@[simp] theorem State.deferCapture_keeps (i : Fin 6) (s : State) :
    (s.deferCapture i).pending = s.pending ∧ (s.deferCapture i).powered = s.powered ∧
    (s.deferCapture i).pins = s.pins ∧ (s.deferCapture i).line = s.line ∧ (s.deferCapture i).run = s.run ∧
    (s.deferCapture i).travel = s.travel ∧ (s.deferCapture i).monitor = s.monitor ∧
    (s.deferCapture i).balance = s.balance ∧ (s.deferCapture i).engine = s.engine ∧
    (s.deferCapture i).transfer = s.transfer ∧ (s.deferCapture i).store = s.store := by
  unfold State.deferCapture
  dsimp only
  simp

@[simp] theorem State.takeCapture_keeps (i : Fin 6) (s : State) :
    (s.takeCapture i).pending = s.pending ∧ (s.takeCapture i).powered = s.powered ∧
    (s.takeCapture i).pins = s.pins ∧ (s.takeCapture i).travel = s.travel ∧
    (s.takeCapture i).monitor = s.monitor ∧ (s.takeCapture i).transfer = s.transfer ∧
    (s.takeCapture i).store = s.store := by
  unfold State.takeCapture
  (repeat' split) <;> simp

@[simp] theorem State.takeStrobeRequest_keeps (s : State) :
    (s.takeStrobeRequest).pending = s.pending ∧ (s.takeStrobeRequest).powered = s.powered ∧
    (s.takeStrobeRequest).pins = s.pins ∧ (s.takeStrobeRequest).travel = s.travel ∧
    (s.takeStrobeRequest).monitor = s.monitor ∧ (s.takeStrobeRequest).transfer = s.transfer ∧
    (s.takeStrobeRequest).store = s.store := by
  unfold State.takeStrobeRequest
  dsimp only
  (repeat' split) <;> simp

@[simp] theorem State.requestPulse_keeps (i : Fin 12) (s : State) :
    (s.requestPulse i).pending = s.pending ∧ (s.requestPulse i).powered = s.powered ∧
    (s.requestPulse i).pins = s.pins ∧ (s.requestPulse i).travel = s.travel ∧
    (s.requestPulse i).monitor = s.monitor ∧ (s.requestPulse i).balance = s.balance ∧
    (s.requestPulse i).frames = s.frames ∧ (s.requestPulse i).engine = s.engine ∧
    (s.requestPulse i).transfer = s.transfer ∧ (s.requestPulse i).store = s.store := by
  unfold State.requestPulse
  dsimp only
  (repeat' split) <;> simp

@[simp] theorem State.continueSelfTest_keeps (n : Nat) (s : State) :
    (s.continueSelfTest n).pending = s.pending ∧ (s.continueSelfTest n).powered = s.powered ∧
    (s.continueSelfTest n).pins = s.pins ∧ (s.continueSelfTest n).travel = s.travel ∧
    (s.continueSelfTest n).monitor = s.monitor ∧ (s.continueSelfTest n).balance = s.balance ∧
    (s.continueSelfTest n).frames = s.frames ∧ (s.continueSelfTest n).engine = s.engine ∧
    (s.continueSelfTest n).transfer = s.transfer ∧ (s.continueSelfTest n).store = s.store := by
  unfold State.continueSelfTest
  (repeat' split) <;> simp

@[simp] theorem State.beginSelfTest_keeps (s : State) :
    (s.beginSelfTest).pending = s.pending ∧ (s.beginSelfTest).powered = s.powered ∧
    (s.beginSelfTest).pins = s.pins ∧ (s.beginSelfTest).travel = s.travel ∧
    (s.beginSelfTest).monitor = s.monitor ∧ (s.beginSelfTest).balance = s.balance ∧
    (s.beginSelfTest).frames = s.frames ∧ (s.beginSelfTest).engine = s.engine ∧
    (s.beginSelfTest).transfer = s.transfer ∧ (s.beginSelfTest).store = s.store := by
  unfold State.beginSelfTest
  (repeat' split) <;> simp

@[simp] theorem State.afterLight_keeps (x : StrobeTarget) (s : State) :
    (s.afterLight x).pending = s.pending ∧ (s.afterLight x).powered = s.powered ∧
    (s.afterLight x).pins = s.pins ∧ (s.afterLight x).travel = s.travel ∧
    (s.afterLight x).monitor = s.monitor ∧ (s.afterLight x).balance = s.balance ∧
    (s.afterLight x).engine = s.engine ∧ (s.afterLight x).transfer = s.transfer ∧
    (s.afterLight x).store = s.store := by
  unfold State.afterLight
  (repeat' split) <;> simp

@[simp] theorem State.strobeEnded_keeps (s : State) :
    (s.strobeEnded).pending = s.pending ∧ (s.strobeEnded).powered = s.powered ∧
    (s.strobeEnded).pins = s.pins ∧ (s.strobeEnded).travel = s.travel ∧
    (s.strobeEnded).monitor = s.monitor ∧ (s.strobeEnded).balance = s.balance ∧
    (s.strobeEnded).engine = s.engine ∧ (s.strobeEnded).transfer = s.transfer ∧
    (s.strobeEnded).store = s.store := by
  unfold State.strobeEnded
  (repeat' split) <;> simp

@[simp] theorem State.guardExpired_keeps (s : State) :
    (s.guardExpired).pending = s.pending ∧ (s.guardExpired).powered = s.powered ∧
    (s.guardExpired).pins = s.pins ∧ (s.guardExpired).monitor = s.monitor ∧
    (s.guardExpired).transfer = s.transfer ∧ (s.guardExpired).store = s.store := by
  unfold State.guardExpired
  (repeat' split) <;> simp

@[simp] theorem State.exclusionReleased_keeps (s : State) :
    (s.exclusionReleased).pending = s.pending ∧ (s.exclusionReleased).powered = s.powered ∧
    (s.exclusionReleased).pins = s.pins ∧ (s.exclusionReleased).run = s.run ∧
    (s.exclusionReleased).travel = s.travel ∧ (s.exclusionReleased).monitor = s.monitor ∧
    (s.exclusionReleased).balance = s.balance ∧ (s.exclusionReleased).engine = s.engine ∧
    (s.exclusionReleased).transfer = s.transfer ∧ (s.exclusionReleased).store = s.store := by
  unfold State.exclusionReleased
  (repeat' split) <;> simp

@[simp] theorem State.deferralExpired_keeps (s : State) :
    (s.deferralExpired).pending = s.pending ∧ (s.deferralExpired).powered = s.powered ∧
    (s.deferralExpired).pins = s.pins ∧ (s.deferralExpired).travel = s.travel ∧
    (s.deferralExpired).monitor = s.monitor ∧ (s.deferralExpired).transfer = s.transfer ∧
    (s.deferralExpired).store = s.store := by
  unfold State.deferralExpired
  dsimp only
  (repeat' split) <;> simp

@[simp] theorem State.raiseSome_keeps (o : Option Condition) (s : State) :
    (s.raiseSome o).pending = s.pending ∧ (s.raiseSome o).powered = s.powered ∧
    (s.raiseSome o).pins = s.pins ∧ (s.raiseSome o).run = s.run ∧ (s.raiseSome o).travel = s.travel ∧
    (s.raiseSome o).ring = s.ring ∧ (s.raiseSome o).monitor = s.monitor ∧
    (s.raiseSome o).balance = s.balance ∧ (s.raiseSome o).frames = s.frames ∧
    (s.raiseSome o).engine = s.engine ∧ (s.raiseSome o).transfer = s.transfer ∧
    (s.raiseSome o).store = s.store := by
  unfold State.raiseSome
  (repeat' split) <;> simp

@[simp] theorem State.applySample_keeps (x : StrobeSenses) (l : Strobe) (s : State) (i : Fin 12) :
    (State.applySample x l s i).pending = s.pending ∧ (State.applySample x l s i).powered = s.powered ∧
    (State.applySample x l s i).pins = s.pins ∧ (State.applySample x l s i).run = s.run ∧
    (State.applySample x l s i).travel = s.travel ∧ (State.applySample x l s i).monitor = s.monitor ∧
    (State.applySample x l s i).balance = s.balance ∧ (State.applySample x l s i).frames = s.frames ∧
    (State.applySample x l s i).engine = s.engine ∧ (State.applySample x l s i).transfer = s.transfer ∧
    (State.applySample x l s i).store = s.store := by
  unfold State.applySample
  dsimp only
  (repeat' split) <;> simp

@[simp] theorem State.strobeReading_keeps (x : StrobeTarget) (s : State) :
    (s.strobeReading x).pending = s.pending ∧ (s.strobeReading x).powered = s.powered ∧
    (s.strobeReading x).pins = s.pins ∧ (s.strobeReading x).line = s.line ∧
    (s.strobeReading x).run = s.run ∧ (s.strobeReading x).travel = s.travel ∧
    (s.strobeReading x).ring = s.ring ∧ (s.strobeReading x).balance = s.balance ∧
    (s.strobeReading x).frames = s.frames ∧ (s.strobeReading x).engine = s.engine ∧
    (s.strobeReading x).transfer = s.transfer ∧ (s.strobeReading x).store = s.store := by
  unfold State.strobeReading
  (repeat' split) <;> simp

end Sys2Proof.Machine
end

