-- ==== Sys2Proof/Laws/Frames.lean ====
section
/-! SUPPORT. The balance unit, the sensor port and the correction engine: the blocks each operation leaves as they are,
and the bound that keeps a verdict's ratio from 0. -/

namespace Sys2Proof.Machine

@[simp] theorem State.writeGains_keeps (i : Fin 6) (g : Table 48 Nat) (s : State) :
    (s.writeGains i g).pending = s.pending ∧ (s.writeGains i g).powered = s.powered ∧
    (s.writeGains i g).pins = s.pins ∧ (s.writeGains i g).line = s.line ∧ (s.writeGains i g).run = s.run ∧
    (s.writeGains i g).travel = s.travel ∧ (s.writeGains i g).ring = s.ring ∧
    (s.writeGains i g).monitor = s.monitor ∧ (s.writeGains i g).balance = s.balance ∧
    (s.writeGains i g).engine = s.engine ∧ (s.writeGains i g).transfer = s.transfer ∧
    (s.writeGains i g).store = s.store := by
  unfold State.writeGains
  simp

@[simp] theorem State.judge_keeps (j : Table 12 Judged) (s : State) :
    (s.judge j).pending = s.pending ∧ (s.judge j).powered = s.powered ∧ (s.judge j).pins = s.pins ∧
    (s.judge j).run = s.run ∧ (s.judge j).travel = s.travel ∧ (s.judge j).ring = s.ring ∧
    (s.judge j).monitor = s.monitor ∧ (s.judge j).frames = s.frames ∧ (s.judge j).engine = s.engine ∧
    (s.judge j).transfer = s.transfer ∧ (s.judge j).store = s.store := by
  unfold State.judge
  dsimp only
  (repeat' split) <;> simp

@[simp] theorem State.formMap_keeps (i : Fin 6) (f : Frame) (s : State) :
    (s.formMap i f).pending = s.pending ∧ (s.formMap i f).powered = s.powered ∧
    (s.formMap i f).pins = s.pins ∧ (s.formMap i f).line = s.line ∧ (s.formMap i f).run = s.run ∧
    (s.formMap i f).travel = s.travel ∧ (s.formMap i f).ring = s.ring ∧
    (s.formMap i f).monitor = s.monitor ∧ (s.formMap i f).engine = s.engine ∧
    (s.formMap i f).transfer = s.transfer ∧ (s.formMap i f).store = s.store := by
  unfold State.formMap
  dsimp only
  simp

@[simp] theorem State.revise_keeps (f : Frame) (s : State) :
    (s.revise f).pending = s.pending ∧ (s.revise f).powered = s.powered ∧ (s.revise f).pins = s.pins ∧
    (s.revise f).run = s.run ∧ (s.revise f).travel = s.travel ∧ (s.revise f).ring = s.ring ∧
    (s.revise f).monitor = s.monitor ∧ (s.revise f).frames = s.frames ∧ (s.revise f).engine = s.engine ∧
    (s.revise f).transfer = s.transfer ∧ (s.revise f).store = s.store := by
  unfold State.revise
  dsimp only
  simp

@[simp] theorem State.clearStale_keeps (n : Nat) (s : State) :
    (s.clearStale n).pending = s.pending ∧ (s.clearStale n).powered = s.powered ∧
    (s.clearStale n).pins = s.pins ∧ (s.clearStale n).line = s.line ∧ (s.clearStale n).run = s.run ∧
    (s.clearStale n).travel = s.travel ∧ (s.clearStale n).ring = s.ring ∧
    (s.clearStale n).monitor = s.monitor ∧ (s.clearStale n).frames = s.frames ∧
    (s.clearStale n).engine = s.engine ∧ (s.clearStale n).transfer = s.transfer ∧
    (s.clearStale n).store = s.store := by
  unfold State.clearStale
  simp

@[simp] theorem State.analyse_keeps (i : Fin 6) (s : State) :
    (s.analyse i).pending = s.pending ∧ (s.analyse i).powered = s.powered ∧ (s.analyse i).pins = s.pins ∧
    (s.analyse i).run = s.run ∧ (s.analyse i).travel = s.travel ∧ (s.analyse i).ring = s.ring ∧
    (s.analyse i).monitor = s.monitor ∧ (s.analyse i).engine = s.engine ∧
    (s.analyse i).transfer = s.transfer ∧ (s.analyse i).store = s.store := by
  unfold State.analyse
  (repeat' split) <;> simp

@[simp] theorem State.balanceRelease_keeps (s : State) :
    (s.balanceRelease).pending = s.pending ∧ (s.balanceRelease).powered = s.powered ∧
    (s.balanceRelease).pins = s.pins ∧ (s.balanceRelease).run = s.run ∧
    (s.balanceRelease).travel = s.travel ∧ (s.balanceRelease).ring = s.ring ∧
    (s.balanceRelease).monitor = s.monitor ∧ (s.balanceRelease).frames = s.frames ∧
    (s.balanceRelease).engine = s.engine ∧ (s.balanceRelease).transfer = s.transfer ∧
    (s.balanceRelease).store = s.store := by
  unfold State.balanceRelease
  (repeat' split) <;> simp

@[simp] theorem State.balanceRestart_keeps (s : State) :
    (s.balanceRestart).pending = s.pending ∧ (s.balanceRestart).powered = s.powered ∧
    (s.balanceRestart).pins = s.pins ∧ (s.balanceRestart).run = s.run ∧
    (s.balanceRestart).travel = s.travel ∧ (s.balanceRestart).ring = s.ring ∧
    (s.balanceRestart).monitor = s.monitor ∧ (s.balanceRestart).frames = s.frames ∧
    (s.balanceRestart).engine = s.engine ∧ (s.balanceRestart).transfer = s.transfer ∧
    (s.balanceRestart).store = s.store := by
  unfold State.balanceRestart
  dsimp only
  simp

@[simp] theorem State.sensorError_keeps (i : Fin 6) (s : State) :
    (s.sensorError i).pending = s.pending ∧ (s.sensorError i).powered = s.powered ∧
    (s.sensorError i).pins = s.pins ∧ (s.sensorError i).travel = s.travel ∧
    (s.sensorError i).monitor = s.monitor ∧ (s.sensorError i).transfer = s.transfer ∧
    (s.sensorError i).store = s.store := by
  unfold State.sensorError
  dsimp only
  simp

@[simp] theorem State.endRunAtCount_keeps (s : State) :
    (s.endRunAtCount).pending = s.pending ∧ (s.endRunAtCount).powered = s.powered ∧
    (s.endRunAtCount).pins = s.pins ∧ (s.endRunAtCount).monitor = s.monitor ∧
    (s.endRunAtCount).transfer = s.transfer ∧ (s.endRunAtCount).store = s.store := by
  unfold State.endRunAtCount
  (repeat' split) <;> simp

@[simp] theorem State.joinQueue_keeps (i : Fin 6) (s : State) :
    (s.joinQueue i).pending = s.pending ∧ (s.joinQueue i).powered = s.powered ∧
    (s.joinQueue i).pins = s.pins ∧ (s.joinQueue i).line = s.line ∧ (s.joinQueue i).run = s.run ∧
    (s.joinQueue i).travel = s.travel ∧ (s.joinQueue i).ring = s.ring ∧
    (s.joinQueue i).monitor = s.monitor ∧ (s.joinQueue i).balance = s.balance ∧
    (s.joinQueue i).transfer = s.transfer ∧ (s.joinQueue i).store = s.store := by
  unfold State.joinQueue
  simp

@[simp] theorem State.countCapture_keeps (n : Option Nat) (s : State) :
    (s.countCapture n).pending = s.pending ∧ (s.countCapture n).powered = s.powered ∧
    (s.countCapture n).pins = s.pins ∧ (s.countCapture n).monitor = s.monitor ∧
    (s.countCapture n).transfer = s.transfer ∧ (s.countCapture n).store = s.store := by
  unfold State.countCapture
  dsimp only
  (repeat' split) <;> simp

@[simp] theorem State.readoutComplete_keeps (i : Fin 6) (s : State) :
    (s.readoutComplete i).pending = s.pending ∧ (s.readoutComplete i).powered = s.powered ∧
    (s.readoutComplete i).pins = s.pins ∧ (s.readoutComplete i).monitor = s.monitor ∧
    (s.readoutComplete i).transfer = s.transfer ∧ (s.readoutComplete i).store = s.store := by
  unfold State.readoutComplete
  dsimp only
  simp

@[simp] theorem State.frameStarted_keeps (s : State) :
    (s.frameStarted).pending = s.pending ∧ (s.frameStarted).powered = s.powered ∧
    (s.frameStarted).pins = s.pins ∧ (s.frameStarted).travel = s.travel ∧
    (s.frameStarted).monitor = s.monitor ∧ (s.frameStarted).transfer = s.transfer ∧
    (s.frameStarted).store = s.store := by
  unfold State.frameStarted
  (repeat' split) <;> simp

@[simp] theorem State.lineReceived_keeps (l : List (BitVec 10)) (s : State) :
    (s.lineReceived l).pending = s.pending ∧ (s.lineReceived l).powered = s.powered ∧
    (s.lineReceived l).pins = s.pins ∧ (s.lineReceived l).line = s.line ∧ (s.lineReceived l).run = s.run ∧
    (s.lineReceived l).travel = s.travel ∧ (s.lineReceived l).ring = s.ring ∧
    (s.lineReceived l).monitor = s.monitor ∧ (s.lineReceived l).balance = s.balance ∧
    (s.lineReceived l).engine = s.engine ∧ (s.lineReceived l).transfer = s.transfer ∧
    (s.lineReceived l).store = s.store := by
  unfold State.lineReceived
  dsimp only
  (repeat' split) <;> simp

@[simp] theorem State.frameEnded_keeps (s : State) :
    (s.frameEnded).pending = s.pending ∧ (s.frameEnded).powered = s.powered ∧
    (s.frameEnded).pins = s.pins ∧ (s.frameEnded).monitor = s.monitor ∧
    (s.frameEnded).transfer = s.transfer ∧ (s.frameEnded).store = s.store := by
  unfold State.frameEnded
  (repeat' split) <;> simp

@[simp] theorem State.readoutExpired_keeps (s : State) :
    (s.readoutExpired).pending = s.pending ∧ (s.readoutExpired).powered = s.powered ∧
    (s.readoutExpired).pins = s.pins ∧ (s.readoutExpired).travel = s.travel ∧
    (s.readoutExpired).monitor = s.monitor ∧ (s.readoutExpired).transfer = s.transfer ∧
    (s.readoutExpired).store = s.store := by
  unfold State.readoutExpired
  (repeat' split) <;> simp

@[simp] theorem State.freeEngine_keeps (s : State) :
    (s.freeEngine).pending = s.pending ∧ (s.freeEngine).powered = s.powered ∧
    (s.freeEngine).pins = s.pins ∧ (s.freeEngine).line = s.line ∧ (s.freeEngine).run = s.run ∧
    (s.freeEngine).travel = s.travel ∧ (s.freeEngine).ring = s.ring ∧ (s.freeEngine).monitor = s.monitor ∧
    (s.freeEngine).balance = s.balance ∧ (s.freeEngine).transfer = s.transfer ∧
    (s.freeEngine).store = s.store := by
  unfold State.freeEngine
  simp

@[simp] theorem State.finishFrame_keeps (i : Fin 6) (f : Frame) (s : State) :
    (s.finishFrame i f).pending = s.pending ∧ (s.finishFrame i f).powered = s.powered ∧
    (s.finishFrame i f).pins = s.pins ∧ (s.finishFrame i f).run = s.run ∧
    (s.finishFrame i f).travel = s.travel ∧ (s.finishFrame i f).ring = s.ring ∧
    (s.finishFrame i f).monitor = s.monitor ∧ (s.finishFrame i f).balance = s.balance ∧
    (s.finishFrame i f).transfer = s.transfer ∧ (s.finishFrame i f).store = s.store := by
  unfold State.finishFrame
  dsimp only
  simp

@[simp] theorem State.afterTile_keeps (i : Fin 6) (n : Nat) (f : Frame) (s : State) :
    (s.afterTile i n f).pending = s.pending ∧ (s.afterTile i n f).powered = s.powered ∧
    (s.afterTile i n f).pins = s.pins ∧ (s.afterTile i n f).run = s.run ∧
    (s.afterTile i n f).travel = s.travel ∧ (s.afterTile i n f).ring = s.ring ∧
    (s.afterTile i n f).monitor = s.monitor ∧ (s.afterTile i n f).balance = s.balance ∧
    (s.afterTile i n f).transfer = s.transfer ∧ (s.afterTile i n f).store = s.store := by
  unfold State.afterTile
  (repeat' split) <;> simp

@[simp] theorem State.tileCompleted_keeps (s : State) :
    (s.tileCompleted).pending = s.pending ∧ (s.tileCompleted).powered = s.powered ∧
    (s.tileCompleted).pins = s.pins ∧ (s.tileCompleted).run = s.run ∧
    (s.tileCompleted).travel = s.travel ∧ (s.tileCompleted).ring = s.ring ∧
    (s.tileCompleted).monitor = s.monitor ∧ (s.tileCompleted).balance = s.balance ∧
    (s.tileCompleted).transfer = s.transfer ∧ (s.tileCompleted).store = s.store := by
  unfold State.tileCompleted
  dsimp only
  (repeat' split) <;> simp

/-! ## A verdict's ratio is never 0 (R93, R95) -/

/-- One zone's part keeps the numerator within a bound of the denominator. -/
theorem Ratio.add_bound {r : Ratio} {z : ZoneRecord} (w : Nat) (h : 64 * r.denominator ≤ 1023 * r.numerator)
    (target : 64 ≤ z.target) (mean : z.mean.getD 0 ≤ 1023) :
    64 * (r.add w z).denominator ≤ 1023 * (r.add w z).numerator := by
  unfold Ratio.add
  split
  · have h1 : w * z.mean.getD 0 ≤ w * 1023 := Nat.mul_le_mul_left _ mean
    have h2 : w * 64 ≤ w * z.target := Nat.mul_le_mul_left _ target
    simp only
    omega
  · exact h

/-- R93: with targets of 64 at least (R168) and means of 1,023 at most. -/
theorem ratioOf_bound {p : Profile} {zones : Table 48 ZoneRecord} (g : Fin 12)
    (h : ∀ z, 64 ≤ (zones.get z).target ∧ (zones.get z).mean.getD 0 ≤ 1023) :
    64 * (ratioOf p zones g).denominator ≤ 1023 * (ratioOf p zones g).numerator := by
  unfold ratioOf
  refine List.foldlRecOn (motive := fun r : Ratio => 64 * r.denominator ≤ 1023 * r.numerator) _ _ (Nat.le_refl _) ?_
  intro r hr z _
  exact Ratio.add_bound _ hr (h z).1 (h z).2

/-- R95: the ratio in thousandths is 62 at least. -/
theorem Ratio.thousandths_bound {r : Ratio} (h : 64 * r.denominator ≤ 1023 * r.numerator) : 62 ≤ r.thousandths := by
  unfold Ratio.thousandths
  split
  · rename_i ho
    have hd : 0 < r.denominator := by
      simp only [Ratio.observed, Bool.and_eq_true, decide_eq_true_eq] at ho
      exact ho.2
    have h2 : 62 ≤ 1000 * r.numerator / r.denominator := (Nat.le_div_iff_mul_le hd).mpr (by omega)
    omega
  · decide

end Sys2Proof.Machine
end

