-- ==== Sys2Proof/Laws/Memory.lean ====
section
/-! SUPPORT. The byte memories: every operation keeps the canonical form, what a byte reads as after a write, and the
memories of a reset part. -/

namespace Sys2Proof.Machine

theorem Memory.rising_of_le {low high : Nat} (h : low ≤ high) :
    ∀ {cs : List Host.Cell}, Memory.rising high cs = true → Memory.rising low cs = true
  | [], _ => rfl
  | c :: cs, hr => by
    simp only [Memory.rising, Bool.and_eq_true, decide_eq_true_eq] at hr ⊢
    exact ⟨⟨by omega, hr.1.2⟩, hr.2⟩

theorem Memory.consCell_rising {low a : Nat} {b : Byte} {cs : List Host.Cell} (h : low ≤ a)
    (hr : Memory.rising (a + 1) cs = true) : Memory.rising low (Memory.consCell a b cs) = true := by
  unfold Memory.consCell
  split
  · exact Memory.rising_of_le (by omega) hr
  · rename_i hb
    simp [Memory.rising, h, hr, hb]

theorem Memory.writeCells_rising {a : Nat} {b : Byte} : ∀ {low : Nat} {cs : List Host.Cell}, low ≤ a →
    Memory.rising low cs = true → Memory.rising low (Memory.writeCells cs a b) = true
  | _, [], h, _ => Memory.consCell_rising h rfl
  | low, c :: cs, h, hr => by
    have hc := hr
    simp only [Memory.rising, Bool.and_eq_true, decide_eq_true_eq] at hc
    unfold Memory.writeCells
    split
    · rename_i hlt
      refine Memory.consCell_rising h ?_
      simp only [Memory.rising, Bool.and_eq_true, decide_eq_true_eq]
      exact ⟨⟨hlt, hc.1.2⟩, hc.2⟩
    · split
      · rename_i he
        exact Memory.consCell_rising h (he ▸ hc.2)
      · rename_i hne hne'
        simp only [Memory.rising, Bool.and_eq_true, decide_eq_true_eq]
        exact ⟨hc.1, Memory.writeCells_rising (by omega) hc.2⟩

/-- A write keeps the canonical form. -/
theorem Memory.write_wf {m : Memory} (a : Nat) (b : Byte) (h : m.wf = true) : (m.write a b).wf = true :=
  Memory.writeCells_rising (Nat.zero_le a) h

/-- A run of writes keeps the canonical form. -/
theorem Memory.writeRun_wf : ∀ (bs : List Byte) {m : Memory} (a : Nat), m.wf = true → (m.writeRun a bs).wf = true
  | [], _, _, h => h
  | b :: bs, _, a, h => Memory.writeRun_wf bs (a + 1) (Memory.write_wf a b h)

/-- Writing cells keeps the canonical form. -/
theorem Memory.overlay_wf : ∀ (cells : List Host.Cell) {m : Memory}, m.wf = true → (m.overlay cells).wf = true
  | [], _, h => h
  | c :: cs, _, h => Memory.overlay_wf cs (Memory.write_wf c.1 c.2 h)

/-- The erased memory is canonical. -/
@[simp] theorem Memory.erased_wf : Memory.erased.wf = true := rfl

/-- Every byte of the erased memory reads 255. -/
@[simp] theorem Memory.read_erased (a : Nat) : Memory.erased.read a = 0xFF := rfl

/-- Below a rising list nothing is listed. -/
theorem Memory.readCells_below : ∀ {low a : Nat} {cs : List Host.Cell}, a < low → Memory.rising low cs = true →
    Memory.readCells cs a = Memory.erasedByte
  | _, _, [], _, _ => rfl
  | low, a, c :: cs, h, hr => by
    simp only [Memory.rising, Bool.and_eq_true, decide_eq_true_eq] at hr
    rw [Memory.readCells, if_neg (by omega)]
    exact Memory.readCells_below (by omega) hr.2

theorem Memory.readCells_cons {a x : Nat} {b : Byte} {cs : List Host.Cell} (hr : Memory.rising (a + 1) cs = true) :
    Memory.readCells (Memory.consCell a b cs) x = if x = a then b else Memory.readCells cs x := by
  unfold Memory.consCell
  by_cases hb : b = Memory.erasedByte
  · rw [if_pos hb]
    by_cases hx : x = a
    · subst hx; rw [if_pos rfl, hb]; exact Memory.readCells_below (by omega) hr
    · rw [if_neg hx]
  · rw [if_neg hb, Memory.readCells]
    by_cases hx : x = a
    · rw [if_pos hx, if_pos hx.symm]
    · rw [if_neg hx, if_neg fun h => hx h.symm]

theorem Memory.readCells_write {a x : Nat} {b : Byte} : ∀ {low : Nat} {cs : List Host.Cell}, low ≤ a →
    Memory.rising low cs = true →
    Memory.readCells (Memory.writeCells cs a b) x = if x = a then b else Memory.readCells cs x
  | _, [], _, _ => Memory.readCells_cons rfl
  | low, c :: cs, h, hr => by
    have hc := hr
    simp only [Memory.rising, Bool.and_eq_true, decide_eq_true_eq] at hc
    unfold Memory.writeCells
    split
    · rename_i hlt
      refine Memory.readCells_cons ?_
      simp only [Memory.rising, Bool.and_eq_true, decide_eq_true_eq]
      exact ⟨⟨hlt, hc.1.2⟩, hc.2⟩
    · split
      · rename_i he
        rw [Memory.readCells_cons (he ▸ hc.2)]
        by_cases hx : x = a
        · rw [if_pos hx, if_pos hx]
        · rw [if_neg hx, if_neg hx, Memory.readCells, if_neg (by omega)]
      · rename_i hne hne'
        rw [Memory.readCells, Memory.readCells, Memory.readCells_write (by omega) hc.2]
        by_cases hx : c.1 = x
        · rw [if_pos hx, if_pos hx, if_neg (by omega)]
        · rw [if_neg hx, if_neg hx]

/-- A byte read after a write: the one written, and every other as before. -/
theorem Memory.read_write {m : Memory} (a x : Nat) (b : Byte) (h : m.wf = true) :
    (m.write a b).read x = if x = a then b else m.read x :=
  Memory.readCells_write (Nat.zero_le a) h

/-- A byte read after a run of writes. -/
theorem Memory.read_writeRun : ∀ (bs : List Byte) {m : Memory} (a x : Nat), m.wf = true →
    (m.writeRun a bs).read x = if a ≤ x ∧ x < a + bs.length then bs.getD (x - a) 0 else m.read x
  | [], _, a, x, _ => by
    rw [if_neg (by simp)]; rfl
  | b :: bs, m, a, x, h => by
    rw [Memory.writeRun, Memory.read_writeRun bs (a + 1) x (Memory.write_wf a b h), Memory.read_write a x b h]
    by_cases hx : x = a
    · subst hx
      rw [if_neg (by omega), if_pos rfl, if_pos (by simp)]
      simp
    · rw [if_neg hx]
      by_cases hr : a + 1 ≤ x ∧ x < a + 1 + bs.length
      · rw [if_pos hr, if_pos ⟨by omega, by simp; omega⟩]
        obtain ⟨k, rfl⟩ : ∃ k, x = a + 1 + k := ⟨x - (a + 1), by omega⟩
        rw [show a + 1 + k - (a + 1) = k by omega, show a + 1 + k - a = k + 1 by omega]
        rfl
      · rw [if_neg hr, if_neg fun h => hr ⟨by omega, by have := h.2; simp at this; omega⟩]

/-- A run read has its length. -/
@[simp] theorem Memory.readRun_length (m : Memory) : ∀ (n a : Nat), (m.readRun a n).length = n
  | 0, _ => rfl
  | n + 1, a => by rw [Memory.readRun, List.length_cons, Memory.readRun_length m n (a + 1)]

/-- A byte of a run read. -/
theorem Memory.readRun_getElem? (m : Memory) : ∀ (n a k : Nat), k < n → (m.readRun a n)[k]? = some (m.read (a + k))
  | n + 1, a, 0, _ => rfl
  | n + 1, a, k + 1, h => by
    rw [Memory.readRun, List.getElem?_cons_succ, Memory.readRun_getElem? m n (a + 1) k (by omega),
      show a + 1 + k = a + (k + 1) by omega]

/-- What was written is read back. -/
theorem Memory.readRun_writeRun {m : Memory} (a : Nat) (bs : List Byte) (h : m.wf = true) :
    (m.writeRun a bs).readRun a bs.length = bs := by
  apply List.ext_getElem?
  intro k
  by_cases hk : k < bs.length
  · rw [Memory.readRun_getElem? _ _ _ _ hk, Memory.read_writeRun bs a _ h, if_pos ⟨by omega, by omega⟩,
      show a + k - a = k by omega, List.getD_eq_getElem?_getD, List.getElem?_eq_getElem hk]
    rfl
  · rw [List.getElem?_eq_none (by simpa using hk), List.getElem?_eq_none (by omega)]

/-- The memories of the part after a power-on reset are canonical. -/
theorem State.reset_memories_wf :
    State.reset.store.staging.wf = true ∧ ∀ i : Fin 16, (State.reset.store.areas.get i).mem.wf = true := by
  refine ⟨rfl, fun i => ?_⟩
  revert i
  decide

end Sys2Proof.Machine
end

