-- ==== Sys2Proof/Laws/Path.lean ====
section
/-! SUPPORT. The sensor path: when it is busy, what its falling idle brings, what the abandonment of a slot, an
allocation, a run's end and the entry into the lockout set make of the part (R8 to R10, R14 to R16, R52, R57, R108 to
R110, R126), each shared operation in the words of the statements. -/

namespace Sys2Proof.Machine

/-! ## Tables and slots -/

theorem Table.any_iff {n : Nat} {α : Type} (t : Table n α) (p : α → Bool) :
    t.any p = true ↔ ∃ i, p (t.get i) = true := by
  unfold Table.any Table.get
  rw [List.any_eq_true]
  constructor
  · rintro ⟨x, hx, hp⟩
    obtain ⟨i, hi, rfl⟩ := List.mem_iff_getElem.mp hx
    exact ⟨⟨i, by rw [← t.size]; exact hi⟩, hp⟩
  · rintro ⟨i, hp⟩
    exact ⟨_, List.getElem_mem _, hp⟩

theorem Table.get_set {n : Nat} {α : Type} (t : Table n α) (i j : Fin n) (a : α) :
    (t.set i a).get j = if i = j then a else t.get j := by
  simp [Table.get, Table.set, List.getElem_set, Fin.ext_iff]

theorem Table.get_ofFn {n : Nat} {α : Type} (f : Fin n → α) (i : Fin n) : (Table.ofFn f).get i = f i := by
  unfold Table.get Table.ofFn
  exact (List.getElem_ofFn _).trans rfl

theorem Table.set_set {n : Nat} {α : Type} (t : Table n α) (i : Fin n) (a b : α) :
    (t.set i a).set i b = t.set i b := by
  simp [Table.set]

/-- The first entry that passes: no lower one does. -/
theorem Table.first_lowest {n : Nat} {α : Type} (t : Table n α) (p : α → Bool) (i : Fin n) (h : p (t.get i) = true)
    (below : ∀ j, j < i → p (t.get j) = false) : t.first p = some i := by
  unfold Table.first
  rw [List.find?_eq_some_iff_getElem]
  refine ⟨h, i.val, by simp, by simp, fun j hj => ?_⟩
  have := below ⟨j, by omega⟩ hj
  simpa using this

theorem Table.first_none {n : Nat} {α : Type} (t : Table n α) (p : α → Bool) (h : ∀ i, p (t.get i) = false) :
    t.first p = none := by
  unfold Table.first
  rw [List.find?_eq_none]
  intro i _
  simp [h i]

/-- Section 1.1: the sensor path is busy or idle. -/
theorem State.pathBusy_false_iff (s : State) : s.pathBusy = false ↔ s.pathIdle := by
  rw [← Bool.not_eq_true, State.pathBusy, Table.any_iff]
  unfold State.pathIdle FrameStore.slotIs
  constructor
  · intro h i f hf
    by_contra hc
    exact h ⟨i, by simpa [hf] using hc⟩
  · rintro h ⟨i, hi⟩
    revert hi
    cases hf : s.frames.slots.get i with
    | none => simp
    | some f => simp [h i f hf]

theorem State.pathBusy_iff (s : State) : s.pathBusy = true ↔ ¬ s.pathIdle := by
  rw [← State.pathBusy_false_iff]
  simp

/-- The slot of one frame, when no other slot is on the sensor path. -/
theorem State.slotIn_alone {i : Fin 6} {f : Frame} {s : State} {p : FrameState → Bool}
    (h : s.frames.slots.get i = some f) (hp : p f.state = true) (path : ∀ x, p x = true → x.onSensorPath = true)
    (alone : s.aloneOnPath i) : s.slotIn p = some i := by
  refine Table.first_lowest _ _ i (by simp [h, FrameStore.slotIs, hp]) fun j hj => ?_
  cases hg : s.frames.slots.get j with
  | none => rfl
  | some g =>
    have := alone j g (by omega) hg
    simp only [FrameStore.slotIs]
    by_contra hc
    rw [path _ (by simpa using hc)] at this
    simp at this

theorem State.slotIn_none {s : State} {p : FrameState → Bool}
    (h : ∀ (i : Fin 6) (f : Frame), s.frames.slots.get i = some f → p f.state = false) : s.slotIn p = none := by
  refine Table.first_none _ _ fun i => ?_
  cases hf : s.frames.slots.get i with
  | none => rfl
  | some f => simpa [FrameStore.slotIs] using h i f hf

/-! ## A run closes, a bank is swapped in -/

/-- R16. -/
theorem State.closeIfIdle_idle {s : State} (h : s.pathIdle) : s.closeIfIdle = s.runClosed := by
  rw [← State.pathBusy_false_iff] at h
  unfold State.closeIfIdle State.runClosed
  by_cases hp : s.run.part = .stopping
  · simp only [hp, h, and_self, if_true]
    cases hc : s.run.current with
    | none => simp [State.updRun, hc]
    | some c =>
      simp only [State.updRun, State.notify, State.updLine, LineState.notify]
      congr 2
      rcases hr : c.endReason with _ | r
      · simp
      · cases r <;> simp [EndReason.partAfter]
  · simp [hp]

theorem State.closeIfIdle_busy {s : State} (h : ¬ s.pathIdle) : s.closeIfIdle = s := by
  rw [← State.pathBusy_iff] at h
  simp [State.closeIfIdle, h]

theorem EngineState.current_other (e : EngineState) :
    e.current.other = if e.bankB.state = .current then BankId.a else .b := by
  unfold EngineState.current
  split <;> rfl

/-- R126, R96: the swap with the entry to COLD. -/
theorem State.swap_eq (w : BankId) (s : State) (hw : s.engine.current = w.other)
    (hl : (s.engine.bank w).state = .loaded) :
    (((s.updEngine (EngineState.swap w)).enterCold).updBalance fun u => { u with stale := none }) = s.swapped w := by
  have e1 : EngineState.swap w s.engine =
      (s.engine.setBank w { s.engine.bank w with state := .current }).setBank w.other
        (if (s.engine.bank w.other).references = 0 then
            { state := .empty, profileId := none, references := 0, contents := none }
          else { s.engine.bank w.other with state := .retiring }) := by
    unfold EngineState.swap Bank.settled
    simp [Bank.none]
  have e2 : (EngineState.swap w s.engine).current = w := by
    rw [e1]
    unfold EngineState.current
    cases w
    · simp only [EngineState.setBank, EngineState.bank, BankId.other]
      by_cases hr : s.engine.bankB.references = 0 <;> simp [hr]
    · simp [EngineState.setBank, EngineState.bank, BankId.other]
  have e3 : ((EngineState.swap w s.engine).bank w).contents = (s.engine.bank w).contents := by
    rw [e1]
    cases w <;> rfl
  unfold State.swapped State.enterCold
  simp only [State.updEngine, State.updBalance, State.param]
  rw [e2]
  simp only [EngineState.tables, e3]
  rw [e1]

/-- R126. -/
theorem State.swapIfDue_idle {s : State} (h : s.pathIdle) : s.swapIfDue = s.bankSwapped := by
  rw [← State.pathBusy_false_iff] at h
  have hw : s.engine.current = (if s.engine.bankB.state = .current then BankId.a else .b).other := by
    unfold EngineState.current
    split <;> rfl
  unfold State.swapIfDue State.bankSwapped
  rw [EngineState.current_other]
  simp only [h, and_true]
  generalize (if s.engine.bankB.state = .current then BankId.a else .b) = w at hw ⊢
  by_cases hl : (s.engine.bank w).state = .loaded
  · simp only [hl, if_true]
    exact State.swap_eq w s hw hl
  · simp [hl]

theorem State.swapIfDue_busy {s : State} (h : ¬ s.pathIdle) : s.swapIfDue = s := by
  rw [← State.pathBusy_iff] at h
  simp [State.swapIfDue, h]

/-- What the close of a run leaves. -/
theorem State.runClosed_keeps (s : State) :
    s.runClosed.engine = s.engine ∧ s.runClosed.balance = s.balance ∧ s.runClosed.frames = s.frames ∧
      s.runClosed.ring = s.ring ∧ s.runClosed.run.selfTest = s.run.selfTest ∧
      s.runClosed.line.params = s.line.params := by
  unfold State.runClosed
  split
  · split <;> simp
  · simp

theorem State.bankSwapped_cases (s : State) : s.bankSwapped = s ∨ ∃ w, s.bankSwapped = s.swapped w := by
  unfold State.bankSwapped
  simp only
  generalize (if s.engine.bankB.state = .current then BankId.a else .b) = w
  by_cases h : (s.engine.bank w).state = .loaded
  · exact .inr ⟨w, by simp [h]⟩
  · exact .inl (by simp [h])

/-- What a swap leaves. -/
theorem State.bankSwapped_keeps (s : State) :
    s.bankSwapped.run = s.run ∧ s.bankSwapped.line = s.line ∧ s.bankSwapped.frames = s.frames ∧
      s.bankSwapped.ring = s.ring ∧ s.bankSwapped.travel = s.travel := by
  rcases s.bankSwapped_cases with h | ⟨w, h⟩ <;> rw [h] <;> exact ⟨rfl, rfl, rfl, rfl, rfl⟩

/-- A swap does not look at the run, the travel counter or the line but for its parameters. -/
theorem State.bankSwapped_with (s : State) (l : LineState) (r : RunState) (v : TravelState)
    (h : l.params = s.line.params) :
    State.bankSwapped { s with line := l, run := r, travel := v } =
      { s.bankSwapped with line := l, run := r, travel := v } := by
  unfold State.bankSwapped
  simp only
  generalize (if s.engine.bankB.state = .current then BankId.a else .b) = w
  by_cases hk : (s.engine.bank w).state = .loaded
  · simp only [hk, if_true, State.swapped, h]
  · simp only [hk, if_false]

theorem State.bankSwapped_line_run (s : State) (l : LineState) (r : RunState) (h : l.params = s.line.params) :
    State.bankSwapped { s with line := l, run := r } = { s.bankSwapped with line := l, run := r } := by
  have hs := State.bankSwapped_with s l r s.travel h
  rw [← s.bankSwapped_keeps.2.2.2.2] at hs
  exact s.bankSwapped_keeps.2.2.2.2 ▸ hs

/-- R16, R126: the close of a run and the swap may be taken in either order. -/
theorem State.bankSwapped_runClosed (s : State) : s.bankSwapped.runClosed = s.pathSettled := by
  obtain ⟨h1, h2, _⟩ := s.bankSwapped_keeps
  unfold State.pathSettled State.runClosed
  rw [h1, h2]
  split
  · split
    · refine (State.bankSwapped_line_run s _ _ ?_).symm
      rfl
    · refine (State.bankSwapped_line_run s s.line _ ?_).symm
      rfl
  · rfl

theorem State.pathIdle_bankSwapped {s : State} (h : s.pathIdle) : s.bankSwapped.pathIdle := by
  unfold State.pathIdle
  rw [s.bankSwapped_keeps.2.2.1]
  exact h

theorem State.pathIdle_runClosed {s : State} (h : s.pathIdle) : s.runClosed.pathIdle := by
  unfold State.pathIdle
  rw [s.runClosed_keeps.2.2.1]
  exact h

theorem State.pathIdle_pathSettled {s : State} (h : s.pathIdle) : s.pathSettled.pathIdle :=
  State.pathIdle_bankSwapped (State.pathIdle_runClosed h)

theorem State.bankSwapped_close {s : State} (h : s.pathIdle) : s.bankSwapped.closeIfIdle = s.pathSettled := by
  rw [State.closeIfIdle_idle (State.pathIdle_bankSwapped h), State.bankSwapped_runClosed]

theorem State.close_swap {s : State} (h : s.pathIdle) : s.closeIfIdle.swapIfDue = s.pathSettled := by
  rw [State.closeIfIdle_idle h, State.swapIfDue_idle (State.pathIdle_runClosed h)]
  rfl

/-! ## A slot is freed -/

/-- R127. -/
theorem EngineState.endReference_eq (w : BankId) (e : EngineState) : e.endReference w = e.released w := by
  have h : ∀ k : Bank, Bank.settled { k with references := k.references - 1 } = k.less := by
    intro k
    unfold Bank.settled Bank.less
    by_cases h1 : k.state = .retiring <;> simp [h1, Bank.none, Nat.sub_eq_zero_iff_le]
  cases w <;> simp [EngineState.endReference, EngineState.released, EngineState.setBank, EngineState.bank, h]

/-- R57, R115. -/
theorem State.discard_freed {i : Fin 6} {f : Frame} {s : State} (h : s.frames.slots.get i = some f)
    (hr : f.state.referencing = true) :
    (s.discard i).updRun (RunState.countSkipped f.run) = s.freed i f := by
  have hs : ∀ r : RunState, r.countSkipped f.run = r.skips f.run := fun _ => rfl
  unfold State.discard State.frameAt
  simp only [h, hr, if_true]
  simp [State.putFrame, State.updFrames, State.updEngine, State.updRun, State.freed, EngineState.endReference_eq, hs]

theorem State.pathIdle_freed {i : Fin 6} {f : Frame} {s : State} (h : s.aloneOnPath i) : (s.freed i f).pathIdle := by
  intro j g hg
  simp only [State.freed, Table.get_set] at hg
  split at hg
  · simp at hg
  · rename_i hij
    exact h j g (fun e => hij e.symm) hg

theorem State.pathIdle_abandoned {i : Fin 6} {f : Frame} {s : State} (h : s.aloneOnPath i) :
    (s.abandoned i f).pathIdle :=
  State.pathIdle_freed (s := { s with ring := { s.ring with deferral := none } }) h

/-- R57, R126. -/
theorem State.abandon_eq {i : Fin 6} {f : Frame} {s : State} (h : s.frames.slots.get i = some f)
    (ha : f.state = .armed) (hp : s.aloneOnPath i) : s.abandon i = (s.abandoned i f).bankSwapped := by
  unfold State.abandon State.frameAt
  simp only [h, ha, if_true]
  rw [State.discard_freed (f := f) (by exact h) (by rw [ha]; rfl)]
  exact State.swapIfDue_idle (State.pathIdle_abandoned hp)

/-! ## Allocation and triggers -/

/-- R108. -/
theorem State.fillSlot_eq (i : Fin 6) (run : Option Nat) (source : Source) (position : Word32) (s : State) :
    s.fillSlot i run { source := source, position := position } = s.armed i run source position := by
  simp only [State.fillSlot, State.armed, EngineState.current, State.putFrame, State.updFrames, State.updEngine,
    State.updRing]
  by_cases h : s.engine.bankB.state = .current <;>
    simp [h, EngineState.bank, EngineState.addReference, EngineState.setBank, Frame.allocated,
      FrameFlags.atAllocation, FrameStore.giveNumber, lastFrameNumber]
  all_goals by_cases h2 : s.frames.nextFrame < 4294967295 <;> simp [h2]

/-- R109. -/
theorem State.allocate_lowest {s : State} {i : Fin 6} (h : s.lowestFree i) (run : Option Nat) (t : Trigger) :
    s.allocate run t = (some i, s.fillSlot i run t) := by
  obtain ⟨h1, h2, h3⟩ := h
  have hf : s.frames.slots.first (fun o => o.isNone) = some i := by
    refine Table.first_lowest _ _ i (by simp [h2]) fun j hj => ?_
    have := h3 j hj
    cases hh : s.frames.slots.get j <;> simp_all
  simp [State.allocate, h1, hf]

theorem ParamTable.reclaims_iff (t : ParamTable) : t.reclaims = true ↔ t.value .slotPolicy = 2 := by
  simp [ParamTable.reclaims]

theorem FrameState.delivered_iff (x : FrameState) : x.delivered = true ↔ x = .ready ∨ x = .held ∨ x = .sent := by
  cases x <;> simp [FrameState.delivered]

theorem State.reclaimable_iff {s : State} {i : Fin 6} {n : Nat} : s.reclaimable i = some n ↔
    ∃ f, s.frames.slots.get i = some f ∧ f.state.delivered = true ∧ f.number = n := by
  unfold State.reclaimable State.frameAt
  cases s.frames.slots.get i with
  | none => simp
  | some f => by_cases h : f.state.delivered = true <;> simp [h]

/-- R109: the scan over the slots ends at the one with the lowest number. -/
theorem State.reclaim_fold {s : State} {i : Fin 6} {n : Nat} (hi : s.reclaimable i = some n)
    (lowest : ∀ j m, j ≠ i → s.reclaimable j = some m → n < m) (l : List (Fin 6)) (best : Option (Fin 6)) :
    (best = some i ∨ i ∈ l) → (∀ b, best = some b → ∃ m, s.reclaimable b = some m) →
    l.foldl (init := best) (fun best i =>
      match best, s.reclaimable i with
      | none, some _ => some i
      | some j, some n => if n < (s.reclaimable j).getD n then some i else some j
      | best, none => best) = some i := by
  induction l generalizing best with
  | nil =>
    intro h _
    simpa using h
  | cons a l ih =>
    intro h hb
    rw [List.foldl_cons]
    apply ih
    · by_cases ha : a = i
      · subst ha
        left
        cases best with
        | none => simp [hi]
        | some b =>
          obtain ⟨m, hm⟩ := hb b rfl
          by_cases hbi : b = a
          · subst hbi
            simp [hi]
          · simp [hi, hm, lowest b m hbi hm]
      · rcases h with rfl | h
        · left
          cases hr : s.reclaimable a with
          | none => simp
          | some m =>
            have := lowest a m ha hr
            simp [hi]
            omega
        · right
          simpa [Ne.symm ha] using h
    · intro b
      cases hr : s.reclaimable a with
      | none =>
        cases best with
        | none => simp
        | some c => simpa using hb b
      | some m =>
        cases best with
        | none =>
          simp only [Option.some.injEq]
          rintro rfl
          exact ⟨m, hr⟩
        | some c =>
          simp only
          split
          · rintro ⟨⟩
            exact ⟨m, hr⟩
          · rintro ⟨⟩
            exact hb _ rfl

theorem State.noneFree {s : State} (h : ∀ j, s.frames.slots.get j ≠ none) :
    s.frames.slots.first (fun o => o.isNone) = none := by
  refine Table.first_none _ _ fun i => ?_
  have := h i
  cases hh : s.frames.slots.get i <;> simp_all

/-- R109. -/
theorem State.allocate_oldest {s : State} {i : Fin 6} {f : Frame} (h : s.oldestDelivered i f) (run : Option Nat)
    (t : Trigger) : s.allocate run t = (some i, (s.withdraw i).fillSlot i run t) := by
  obtain ⟨h1, h2, h3, h4, h5, h6⟩ := h
  have hc : s.reclaimCandidate = some i := by
    have hi := State.reclaimable_iff.mpr ⟨f, h4, (FrameState.delivered_iff _).mpr h5, rfl⟩
    refine State.reclaim_fold hi ?_ _ none (.inr (by simp)) (by simp)
    intro j m hj hm
    obtain ⟨g, hg, hd, rfl⟩ := State.reclaimable_iff.mp hm
    exact h6 j g hj hg ((FrameState.delivered_iff _).mp hd)
  simp [State.allocate, h1, State.noneFree h3, (ParamTable.reclaims_iff _).mpr h2, hc]

theorem State.armed_put (i : Fin 6) (o : Option Frame) (run : Option Nat) (source : Source) (position : Word32)
    (s : State) : (s.putFrame i o).armed i run source position = s.armed i run source position := by
  simp only [State.armed, State.putFrame, State.updFrames, Table.set_set]
  rfl

theorem State.withdraw_fill {s : State} {i : Fin 6} {f : Frame} (h : s.frames.slots.get i = some f)
    (run : Option Nat) (source : Source) (position : Word32) :
    (s.withdraw i).fillSlot i run { source := source, position := position } =
      (s.withdrawn i f).armed i run source position := by
  rw [State.fillSlot_eq]
  simp only [State.withdraw, State.frameAt, h]
  rw [State.armed_put]
  rfl

/-- R109, R110. -/
theorem State.allocate_none {s : State} (h : s.noSlot) (run : Option Nat) (t : Trigger) :
    s.allocate run t = (none, s.raise .slotStarved) := by
  unfold State.allocate
  rcases h with h | ⟨h, h2⟩
  · simp [h, State.starve]
  · by_cases he : s.frames.exhausted = true
    · simp [he, State.starve]
    · simp only [he, State.noneFree h]
      rcases h2 with h2 | ⟨h2, h3⟩
      · have hr : s.line.params.reclaims = false := by
          rw [← Bool.not_eq_true, ParamTable.reclaims_iff, h2]
          decide
        simp [hr, State.starve]
      · have hn : ∀ i, s.reclaimable i = none := by
          intro i
          cases hr : s.reclaimable i with
          | none => rfl
          | some n =>
            obtain ⟨g, hg, hd, _⟩ := State.reclaimable_iff.mp hr
            have := h3 i g hg
            rcases (FrameState.delivered_iff _).mp hd with e | e | e <;> simp_all
        have hc : s.reclaimCandidate = none := by
          unfold State.reclaimCandidate
          simp only [hn]
          generalize List.finRange 6 = l
          induction l with
          | nil => rfl
          | cons a l ih => exact ih
        simp [(ParamTable.reclaims_iff _).mpr h2, hc, State.starve]

/-- R9. -/
theorem State.serve_eq {source : Source} {position : Word32} {s t : State} {o : Option (Fin 6)}
    (h : Served source position s o t) : s.serve { source := source, position := position } = (o, t) := by
  cases h with
  | free i slot => simp [State.serve, State.allocate_lowest slot, State.fillSlot_eq, State.openRun]
  | reclaimed i f slot =>
    simp [State.serve, State.allocate_oldest slot, State.withdraw_fill slot.2.2.2.1, State.openRun]
  | starved full =>
    have e : (s.raise .slotStarved).run.countSkipped s.openRun = s.skipsOne.run := by
      change RunState.countSkipped s.openRun s.run = _
      simp only [State.skipsOne, RunState.countSkipped, State.openRun]
      congr 1
      refine Option.map_congr fun c hc => ?_
      simp [Option.mem_def.mp hc]
    simp only [State.serve, State.allocate_none full, State.updRun, e]
    rfl

/-- R10. -/
theorem State.servePending_eq {s t : State} (h : PendingServed s t) : s.servePending = t := by
  cases h with
  | absent h => simp [State.servePending, h]
  | served x o t h got =>
    have := State.serve_eq got
    simp [State.servePending, h, State.updRun, this]

/-! ## The end of a run -/

/-- R15, steps 1 to 3. -/
theorem State.stopRun_eq {reason : EndReason} {c : RunRecord} {s : State} (h : s.run.current = some c) :
    s.stopRun reason = { s with
      run := { s.run with
        current := some (s.endedRecord reason c)
        intervalTimer := none
        pendingTrigger := none }
      travel := { s.travel with countdown := none } } := by
  simp only [State.stopRun, State.updRun, State.updTravel, h, Option.map_some, State.endedRecord]
  cases s.run.pendingTrigger <;> simp

/-- R16. -/
theorem State.stopping_closed {reason : EndReason} {c : RunRecord} {s : State} :
    (s.stopping reason c).runClosed = s.closed reason reason.partAfter c := by
  simp only [State.runClosed, State.stopping, State.closed, if_true]
  congr 2
  cases reason <;> simp [State.endedRecord, EndReason.partAfter]

/-- R15, with no slot ARMED. -/
theorem State.leaveRunning_unarmed {reason : EndReason} {c : RunRecord} {s : State} (h : s.run.current = some c)
    (ha : s.noneArmed) : s.leaveRunning reason = s.stopping reason c := by
  have hn : (s.stopRun reason).slotIn (fun p => decide (p = .armed)) = none := by
    rw [State.stopRun_eq h]
    exact State.slotIn_none fun i f hf => by simpa using ha i f hf
  simp only [State.leaveRunning, State.abandonArmed, hn]
  rw [State.stopRun_eq h]
  rfl

/-- R15, R57, with a slot ARMED. -/
theorem State.leaveRunning_armed {reason : EndReason} {c : RunRecord} {i : Fin 6} {f : Frame} {s : State}
    (h : s.run.current = some c) (hf : s.frames.slots.get i = some f) (ha : f.state = .armed)
    (hp : s.aloneOnPath i) :
    s.leaveRunning reason =
      State.stopping reason (if f.run = some c.number then { c with skipped := c.skipped + 1 } else c)
        (s.abandoned i f).bankSwapped := by
  have e := State.stopRun_eq (reason := reason) h
  have e1 : (s.stopRun reason).frames = s.frames := by rw [e]
  have hs : (s.stopRun reason).slotIn (fun p => decide (p = .armed)) = some i := by
    refine State.slotIn_alone (f := f) (by rw [e1]; exact hf) (by simp [ha]) ?_
      (by unfold State.aloneOnPath; rw [e1]; exact hp)
    intro x
    cases x <;> simp [FrameState.onSensorPath]
  simp only [State.leaveRunning, State.abandonArmed, hs]
  rw [State.abandon_eq (f := f) (by rw [e1]; exact hf) ha (by unfold State.aloneOnPath; rw [e1]; exact hp), e]
  have e2 : State.abandoned i f { s with
      run := { s.run with
        current := some (s.endedRecord reason c)
        intervalTimer := none
        pendingTrigger := none }
      travel := { s.travel with countdown := none } } = { s.abandoned i f with
      line := s.line
      run := { s.run with
        current := some (s.endedRecord reason
          (if f.run = some c.number then { c with skipped := c.skipped + 1 } else c))
        intervalTimer := none
        pendingTrigger := none }
      travel := { s.travel with countdown := none } } := by
    simp only [State.abandoned, State.freed, RunState.skips, Option.map_some]
    congr 4
    by_cases hn : f.run = some c.number
    · simp only [State.endedRecord, hn, if_true]
      cases s.run.pendingTrigger <;> simp
    · simp [State.endedRecord, hn]
  rw [e2, State.bankSwapped_with (s.abandoned i f) s.line _ _ rfl]
  obtain ⟨k1, k2, _, _, k5⟩ := (s.abandoned i f).bankSwapped_keeps
  simp only [State.stopping, State.updRun, State.endedRecord, k1, k2, k5]
  rfl

/-- R14 to R16: a run end with the sensor path idle. -/
theorem State.endRun_idle {reason : EndReason} {c : RunRecord} {s : State} (hr : s.run.part = .running)
    (h : s.run.current = some c) (hp : s.pathIdle) : s.endRun reason = s.closed reason reason.partAfter c := by
  have ha : s.noneArmed := fun i f hf e => by
    have := hp i f hf
    simp [e, FrameState.onSensorPath] at this
  rw [State.endRun, if_pos hr, State.leaveRunning_unarmed h ha, State.closeIfIdle_idle (by exact hp),
    State.stopping_closed]

/-- R14, R15: a run end with a capture past its strobe start on the sensor path. -/
theorem State.endRun_busy {reason : EndReason} {c : RunRecord} {s : State} (hr : s.run.part = .running)
    (h : s.run.current = some c) (hp : ¬ s.pathIdle) (ha : s.noneArmed) :
    s.endRun reason = s.stopping reason c := by
  rw [State.endRun, if_pos hr, State.leaveRunning_unarmed h ha, State.closeIfIdle_busy (by exact hp)]

/-- R14 to R16, R57: a run end with a slot ARMED. -/
theorem State.endRun_armed {reason : EndReason} {c : RunRecord} {i : Fin 6} {f : Frame} {s : State}
    (hr : s.run.part = .running) (h : s.run.current = some c) (hf : s.frames.slots.get i = some f)
    (ha : f.state = .armed) (hp : s.aloneOnPath i) :
    s.endRun reason = s.closedFreeing reason reason.partAfter c i f := by
  rw [State.endRun, if_pos hr, State.leaveRunning_armed h hf ha hp,
    State.closeIfIdle_idle (by exact State.pathIdle_bankSwapped (State.pathIdle_abandoned hp)),
    State.stopping_closed]
  rfl

theorem State.endRun_not {reason : EndReason} {s : State} (h : s.run.part ≠ .running) : s.endRun reason = s := by
  simp [State.endRun, h]

/-! ## The entry of a reason into the lockout set -/

/-- R69. -/
theorem State.cutByTrip_capture {s : State} {x : Strobe} {i : Fin 6} {f : Frame} (h : s.ring.strobe = some x)
    (ht : x.target = .capture i) (hs : s.frames.slots.get i = some f) :
    s.cutByTrip = s.darkened.reading i f true := by
  simp only [State.cutByTrip, h, State.handOver, ht, State.beginReading, State.modifyFrame, State.frameAt,
    State.putFrame, State.updRing, State.updFrames, hs, Option.map_some]
  rfl

theorem State.cutByTrip_pulse {s : State} {x : Strobe} {k : Fin 12} (h : s.ring.strobe = some x)
    (ht : x.target = .selfTest k) : s.cutByTrip = s.darkened := by
  simp only [State.cutByTrip, h, State.handOver, ht]
  rfl

theorem State.cutByTrip_dark {reason : LockoutReason} {s : State} (d : reason = .thermal → s.ring.strobe = none) :
    (if reason = .thermal then s.cutByTrip else s) = s := by
  split
  · simp [State.cutByTrip, d (by assumption)]
  · rfl

theorem State.endDeferral_none {s : State} (h : s.ring.deferral = none) : s.endDeferral = s := by
  simp [State.endDeferral, h]

theorem State.endDeferral_capture {s : State} {d : Deferral} {i : Fin 6} (h : s.ring.deferral = some d)
    (ht : d.target = .capture i) : s.endDeferral = (s.abandon i).closeIfIdle := by
  simp [State.endDeferral, h, ht]

theorem State.endSelfTest_none {s : State} (h : s.run.selfTest = none) : s.endSelfTest = s := by
  simp [State.endSelfTest, h]

/-- R3: with no pulse lit. -/
theorem State.endSelfTest_dark {s : State} (h : s.run.selfTest ≠ none) (d : s.ring.strobe = none) :
    s.endSelfTest = s.startedUp := by
  have h1 : s.run.selfTest.isSome := by cases hh : s.run.selfTest <;> simp_all
  rw [State.endSelfTest, if_pos ⟨h1, by simp [d]⟩]
  rfl

/-- The part is not RUNNING after a close. -/
theorem State.pathSettled_part {s : State} (h : s.run.part ≠ .running) : s.pathSettled.run.part ≠ .running := by
  have hr : s.pathSettled.run = s.runClosed.run := s.runClosed.bankSwapped_keeps.1
  rw [hr]
  unfold State.runClosed
  split
  · split
    · simp only []
      split <;> simp
    · simp
  · exact h

/-- The run end that a reason brings makes the part READY (R16). -/
theorem LockoutReason.partAfter (r : LockoutReason) : r.endReason.partAfter = .ready := by
  cases r <;> rfl

/-- R52, R60, R69, R71: all that the entry of a reason brings once it stands in the set. -/
theorem State.entry_eq {reason : LockoutReason} {s t : State} (h : AfterEntry reason reason.endReason s t) :
    (((if reason = .thermal then s.cutByTrip else s).endDeferral).endRun reason.endReason).endSelfTest = t := by
  cases h with
  | nothing run held test dark =>
    rw [State.cutByTrip_dark dark, State.endDeferral_none held, State.endRun_not run, State.endSelfTest_none test]
  | cuts x i f run held test trip lit target slot =>
    rw [if_pos trip, State.cutByTrip_capture lit target slot, State.endDeferral_none (by exact held),
      State.endRun_not (by exact run), State.endSelfTest_none (by exact test)]
  | closes c run opened held test dark idle =>
    rw [State.cutByTrip_dark dark, State.endDeferral_none held, State.endRun_idle run opened idle,
      LockoutReason.partAfter, State.endSelfTest_none (by exact test)]
  | stops c run opened held test dark busy unarmed =>
    rw [State.cutByTrip_dark dark, State.endDeferral_none held, State.endRun_busy run opened busy unarmed,
      State.endSelfTest_none (by exact test)]
  | cutsAndStops c x i f run opened held test trip lit target slot unarmed =>
    rw [if_pos trip, State.cutByTrip_capture lit target slot, State.endDeferral_none (by exact held),
      State.endRun_busy (c := c) (by exact run) (by exact opened), State.endSelfTest_none (by exact test)]
    · rfl
    · intro hi
      have := hi i _ (by simp only [State.reading, Table.get_set]; simp; rfl)
      simp [FrameState.onSensorPath] at this
    · intro j g hg
      simp only [State.reading, Table.get_set] at hg
      split at hg
      · cases hg
        simp
      · exact unarmed j g hg
  | frees c i f run opened held test dark slot armed alone =>
    rw [State.cutByTrip_dark dark]
    have hk := (s.abandoned i f).bankSwapped_keeps
    have htest : (s.abandoned i f).bankSwapped.run.selfTest = none := by
      rw [hk.1]
      exact test
    cases hd : s.ring.deferral with
    | none =>
      rw [State.endDeferral_none hd, State.endRun_armed run opened slot armed alone, LockoutReason.partAfter,
        State.endSelfTest_none]
      exact htest
    | some d =>
      have hp : (s.abandoned i f).bankSwapped.pathIdle := State.pathIdle_bankSwapped (State.pathIdle_abandoned alone)
      have hrun : (s.abandoned i f).bankSwapped.run.part = .running := by
        rw [hk.1]
        exact run
      have hclosed : (s.abandoned i f).bankSwapped.runClosed = (s.abandoned i f).bankSwapped := by
        unfold State.runClosed
        rw [if_neg (by rw [hrun]; decide)]
      rw [State.endDeferral_capture hd (held d hd), State.abandon_eq slot armed alone, State.closeIfIdle_idle hp,
        hclosed, State.endRun_idle
          (c := if f.run = some c.number then { c with skipped := c.skipped + 1 } else c) hrun ?_ hp,
        LockoutReason.partAfter, State.endSelfTest_none (by exact htest)]
      · rfl
      · rw [hk.1]
        simp only [State.abandoned, State.freed, RunState.skips, opened, Option.map_some]
  | abandons d i f run held target test dark slot armed alone =>
    have hr : (s.abandoned i f).pathSettled.run = (s.abandoned i f).runClosed.run :=
      (s.abandoned i f).runClosed.bankSwapped_keeps.1
    rw [State.cutByTrip_dark dark, State.endDeferral_capture held target, State.abandon_eq slot armed alone,
      State.bankSwapped_close (State.pathIdle_abandoned alone),
      State.endRun_not (State.pathSettled_part (by exact run)), State.endSelfTest_none]
    rw [hr, (s.abandoned i f).runClosed_keeps.2.2.2.2.1]
    exact test
  | endsTest run held test dark =>
    have e : s.endDeferral = { s with ring := { s.ring with deferral := none } } := by
      cases hd : s.ring.deferral with
      | none => rw [State.endDeferral_none hd, ← hd]
      | some d =>
        obtain ⟨k, hk⟩ := held d hd
        simp [State.endDeferral, hd, hk, State.updRing]
    rw [State.cutByTrip_dark fun _ => dark, e, State.endRun_not (by exact run),
      State.endSelfTest_dark (by exact test) (by exact dark)]
  | cutsPulse x k run held test trip lit target =>
    rw [if_pos trip, State.cutByTrip_pulse lit target, State.endDeferral_none (by exact held),
      State.endRun_not (by exact run), State.endSelfTest_dark (by exact test) rfl]
  | leavesPulse x k run held test low lit target =>
    rw [if_neg (by rw [low]; decide), State.endDeferral_none held, State.endRun_not run, State.endSelfTest, if_neg]
    simp [lit]

end Sys2Proof.Machine
end

