-- ==== Sys2Proof/Laws/Store.lean ====
section
/-! SUPPORT. The profile store and loads: the blocks each operation leaves as they are. -/

namespace Sys2Proof.Machine

@[simp] theorem State.scanCompleted_keeps (s : State) :
    (s.scanCompleted).pending = s.pending ∧ (s.scanCompleted).powered = s.powered ∧
    (s.scanCompleted).pins = s.pins ∧ (s.scanCompleted).travel = s.travel ∧
    (s.scanCompleted).monitor = s.monitor ∧ (s.scanCompleted).balance = s.balance ∧
    (s.scanCompleted).frames = s.frames ∧ (s.scanCompleted).engine = s.engine ∧
    (s.scanCompleted).transfer = s.transfer := by
  unfold State.scanCompleted
  dsimp only
  (repeat' split) <;> simp

@[simp] theorem State.endOperation_keeps (t : Byte) (r : OperationResult) (s : State) :
    (s.endOperation t r).pending = s.pending ∧ (s.endOperation t r).powered = s.powered ∧
    (s.endOperation t r).pins = s.pins ∧ (s.endOperation t r).run = s.run ∧
    (s.endOperation t r).travel = s.travel ∧ (s.endOperation t r).ring = s.ring ∧
    (s.endOperation t r).monitor = s.monitor ∧ (s.endOperation t r).balance = s.balance ∧
    (s.endOperation t r).frames = s.frames ∧ (s.endOperation t r).engine = s.engine ∧
    (s.endOperation t r).transfer = s.transfer := by
  unfold State.endOperation
  simp

@[simp] theorem State.abandonOperation_keeps (s : State) :
    (s.abandonOperation).pending = s.pending ∧ (s.abandonOperation).powered = s.powered ∧
    (s.abandonOperation).pins = s.pins ∧ (s.abandonOperation).run = s.run ∧
    (s.abandonOperation).travel = s.travel ∧ (s.abandonOperation).ring = s.ring ∧
    (s.abandonOperation).monitor = s.monitor ∧ (s.abandonOperation).balance = s.balance ∧
    (s.abandonOperation).frames = s.frames ∧ (s.abandonOperation).engine = s.engine ∧
    (s.abandonOperation).transfer = s.transfer := by
  unfold State.abandonOperation
  (repeat' split) <;> simp

@[simp] theorem State.storeStage_keeps (body : List Byte) (s : State) :
    (s.storeStage body).pending = s.pending ∧ (s.storeStage body).powered = s.powered ∧
    (s.storeStage body).pins = s.pins ∧ (s.storeStage body).run = s.run ∧
    (s.storeStage body).travel = s.travel ∧ (s.storeStage body).ring = s.ring ∧
    (s.storeStage body).monitor = s.monitor ∧ (s.storeStage body).balance = s.balance ∧
    (s.storeStage body).frames = s.frames ∧ (s.storeStage body).engine = s.engine ∧
    (s.storeStage body).transfer = s.transfer := by
  unfold State.storeStage
  dsimp only
  (repeat' split) <;> simp

@[simp] theorem State.storePermit_keeps (s : State) :
    (s.storePermit).pending = s.pending ∧ (s.storePermit).powered = s.powered ∧
    (s.storePermit).pins = s.pins ∧ (s.storePermit).run = s.run ∧ (s.storePermit).travel = s.travel ∧
    (s.storePermit).ring = s.ring ∧ (s.storePermit).monitor = s.monitor ∧
    (s.storePermit).balance = s.balance ∧ (s.storePermit).frames = s.frames ∧
    (s.storePermit).engine = s.engine ∧ (s.storePermit).transfer = s.transfer := by
  unfold State.storePermit
  (repeat' split) <;> simp

@[simp] theorem State.storeRevoke_keeps (s : State) :
    (s.storeRevoke).pending = s.pending ∧ (s.storeRevoke).powered = s.powered ∧
    (s.storeRevoke).pins = s.pins ∧ (s.storeRevoke).run = s.run ∧ (s.storeRevoke).travel = s.travel ∧
    (s.storeRevoke).ring = s.ring ∧ (s.storeRevoke).monitor = s.monitor ∧
    (s.storeRevoke).balance = s.balance ∧ (s.storeRevoke).frames = s.frames ∧
    (s.storeRevoke).engine = s.engine ∧ (s.storeRevoke).transfer = s.transfer := by
  unfold State.storeRevoke
  simp

@[simp] theorem State.storeLockdown_keeps (s : State) :
    (s.storeLockdown).pending = s.pending ∧ (s.storeLockdown).powered = s.powered ∧
    (s.storeLockdown).pins = s.pins ∧ (s.storeLockdown).run = s.run ∧
    (s.storeLockdown).travel = s.travel ∧ (s.storeLockdown).ring = s.ring ∧
    (s.storeLockdown).monitor = s.monitor ∧ (s.storeLockdown).balance = s.balance ∧
    (s.storeLockdown).frames = s.frames ∧ (s.storeLockdown).engine = s.engine ∧
    (s.storeLockdown).transfer = s.transfer := by
  unfold State.storeLockdown
  simp

@[simp] theorem State.storeCommit_keeps (body : List Byte) (s : State) :
    (s.storeCommit body).pending = s.pending ∧ (s.storeCommit body).powered = s.powered ∧
    (s.storeCommit body).pins = s.pins ∧ (s.storeCommit body).run = s.run ∧
    (s.storeCommit body).travel = s.travel ∧ (s.storeCommit body).ring = s.ring ∧
    (s.storeCommit body).monitor = s.monitor ∧ (s.storeCommit body).balance = s.balance ∧
    (s.storeCommit body).frames = s.frames ∧ (s.storeCommit body).engine = s.engine ∧
    (s.storeCommit body).transfer = s.transfer := by
  unfold State.storeCommit
  dsimp only
  (repeat' split) <;> simp

@[simp] theorem State.eraseOne_keeps (i : Fin 16) (s : State) :
    (s.eraseOne i).pending = s.pending ∧ (s.eraseOne i).powered = s.powered ∧
    (s.eraseOne i).pins = s.pins ∧ (s.eraseOne i).run = s.run ∧ (s.eraseOne i).travel = s.travel ∧
    (s.eraseOne i).ring = s.ring ∧ (s.eraseOne i).monitor = s.monitor ∧
    (s.eraseOne i).balance = s.balance ∧ (s.eraseOne i).frames = s.frames ∧
    (s.eraseOne i).engine = s.engine ∧ (s.eraseOne i).transfer = s.transfer := by
  unfold State.eraseOne
  dsimp only
  (repeat' split) <;> simp

@[simp] theorem State.eraseAll_keeps (s : State) :
    (s.eraseAll).pending = s.pending ∧ (s.eraseAll).powered = s.powered ∧ (s.eraseAll).pins = s.pins ∧
    (s.eraseAll).run = s.run ∧ (s.eraseAll).travel = s.travel ∧ (s.eraseAll).ring = s.ring ∧
    (s.eraseAll).monitor = s.monitor ∧ (s.eraseAll).balance = s.balance ∧ (s.eraseAll).frames = s.frames ∧
    (s.eraseAll).engine = s.engine ∧ (s.eraseAll).transfer = s.transfer := by
  unfold State.eraseAll
  dsimp only
  (repeat' split) <;> simp

@[simp] theorem State.storeErase_keeps (body : List Byte) (s : State) :
    (s.storeErase body).pending = s.pending ∧ (s.storeErase body).powered = s.powered ∧
    (s.storeErase body).pins = s.pins ∧ (s.storeErase body).run = s.run ∧
    (s.storeErase body).travel = s.travel ∧ (s.storeErase body).ring = s.ring ∧
    (s.storeErase body).monitor = s.monitor ∧ (s.storeErase body).balance = s.balance ∧
    (s.storeErase body).frames = s.frames ∧ (s.storeErase body).engine = s.engine ∧
    (s.storeErase body).transfer = s.transfer := by
  unfold State.storeErase
  dsimp only
  (repeat' split) <;> simp

@[simp] theorem State.storeProtect_keeps (body : List Byte) (s : State) :
    (s.storeProtect body).pending = s.pending ∧ (s.storeProtect body).powered = s.powered ∧
    (s.storeProtect body).pins = s.pins ∧ (s.storeProtect body).run = s.run ∧
    (s.storeProtect body).travel = s.travel ∧ (s.storeProtect body).ring = s.ring ∧
    (s.storeProtect body).monitor = s.monitor ∧ (s.storeProtect body).balance = s.balance ∧
    (s.storeProtect body).frames = s.frames ∧ (s.storeProtect body).engine = s.engine ∧
    (s.storeProtect body).transfer = s.transfer := by
  unfold State.storeProtect
  dsimp only
  (repeat' split) <;> simp

@[simp] theorem State.testErased_keeps (i : Fin 16) (s : State) :
    (s.testErased i).pending = s.pending ∧ (s.testErased i).powered = s.powered ∧
    (s.testErased i).pins = s.pins ∧ (s.testErased i).run = s.run ∧ (s.testErased i).travel = s.travel ∧
    (s.testErased i).ring = s.ring ∧ (s.testErased i).monitor = s.monitor ∧
    (s.testErased i).balance = s.balance ∧ (s.testErased i).frames = s.frames ∧
    (s.testErased i).engine = s.engine ∧ (s.testErased i).transfer = s.transfer := by
  unfold State.testErased
  dsimp only
  (repeat' split) <;> simp

@[simp] theorem State.putOperation_keeps (o : Operation) (s : State) :
    (s.putOperation o).pending = s.pending ∧ (s.putOperation o).powered = s.powered ∧
    (s.putOperation o).pins = s.pins ∧ (s.putOperation o).line = s.line ∧ (s.putOperation o).run = s.run ∧
    (s.putOperation o).travel = s.travel ∧ (s.putOperation o).ring = s.ring ∧
    (s.putOperation o).monitor = s.monitor ∧ (s.putOperation o).balance = s.balance ∧
    (s.putOperation o).frames = s.frames ∧ (s.putOperation o).engine = s.engine ∧
    (s.putOperation o).transfer = s.transfer := by
  unfold State.putOperation
  simp

@[simp] theorem State.afterErase_keeps (o : Operation) (s : State) :
    (s.afterErase o).pending = s.pending ∧ (s.afterErase o).powered = s.powered ∧
    (s.afterErase o).pins = s.pins ∧ (s.afterErase o).run = s.run ∧ (s.afterErase o).travel = s.travel ∧
    (s.afterErase o).ring = s.ring ∧ (s.afterErase o).monitor = s.monitor ∧
    (s.afterErase o).balance = s.balance ∧ (s.afterErase o).frames = s.frames ∧
    (s.afterErase o).engine = s.engine ∧ (s.afterErase o).transfer = s.transfer := by
  unfold State.afterErase
  dsimp only
  (repeat' split) <;> simp

@[simp] theorem State.erasingEnded_keeps (c : List Host.Cell) (s : State) :
    (s.erasingEnded c).pending = s.pending ∧ (s.erasingEnded c).powered = s.powered ∧
    (s.erasingEnded c).pins = s.pins ∧ (s.erasingEnded c).run = s.run ∧
    (s.erasingEnded c).travel = s.travel ∧ (s.erasingEnded c).ring = s.ring ∧
    (s.erasingEnded c).monitor = s.monitor ∧ (s.erasingEnded c).balance = s.balance ∧
    (s.erasingEnded c).frames = s.frames ∧ (s.erasingEnded c).engine = s.engine ∧
    (s.erasingEnded c).transfer = s.transfer := by
  unfold State.erasingEnded
  (repeat' split) <;> simp

@[simp] theorem State.programmingEnded_keeps (c : List Host.Cell) (s : State) :
    (s.programmingEnded c).pending = s.pending ∧ (s.programmingEnded c).powered = s.powered ∧
    (s.programmingEnded c).pins = s.pins ∧ (s.programmingEnded c).run = s.run ∧
    (s.programmingEnded c).travel = s.travel ∧ (s.programmingEnded c).ring = s.ring ∧
    (s.programmingEnded c).monitor = s.monitor ∧ (s.programmingEnded c).balance = s.balance ∧
    (s.programmingEnded c).frames = s.frames ∧ (s.programmingEnded c).engine = s.engine ∧
    (s.programmingEnded c).transfer = s.transfer := by
  unfold State.programmingEnded
  dsimp only
  (repeat' split) <;> simp

@[simp] theorem State.verifyingEnded_keeps (s : State) :
    (s.verifyingEnded).pending = s.pending ∧ (s.verifyingEnded).powered = s.powered ∧
    (s.verifyingEnded).pins = s.pins ∧ (s.verifyingEnded).run = s.run ∧
    (s.verifyingEnded).travel = s.travel ∧ (s.verifyingEnded).ring = s.ring ∧
    (s.verifyingEnded).monitor = s.monitor ∧ (s.verifyingEnded).balance = s.balance ∧
    (s.verifyingEnded).frames = s.frames ∧ (s.verifyingEnded).engine = s.engine ∧
    (s.verifyingEnded).transfer = s.transfer := by
  unfold State.verifyingEnded
  (repeat' split) <;> simp

@[simp] theorem State.storeRead_keeps (body : List Byte) (s : State) :
    (s.storeRead body).pending = s.pending ∧ (s.storeRead body).powered = s.powered ∧
    (s.storeRead body).pins = s.pins ∧ (s.storeRead body).run = s.run ∧
    (s.storeRead body).travel = s.travel ∧ (s.storeRead body).ring = s.ring ∧
    (s.storeRead body).monitor = s.monitor ∧ (s.storeRead body).balance = s.balance ∧
    (s.storeRead body).frames = s.frames ∧ (s.storeRead body).engine = s.engine ∧
    (s.storeRead body).transfer = s.transfer := by
  unfold State.storeRead
  dsimp only
  (repeat' split) <;> simp

@[simp] theorem State.storeReadEnded_keeps (s : State) :
    (s.storeReadEnded).pending = s.pending ∧ (s.storeReadEnded).powered = s.powered ∧
    (s.storeReadEnded).pins = s.pins ∧ (s.storeReadEnded).run = s.run ∧
    (s.storeReadEnded).travel = s.travel ∧ (s.storeReadEnded).ring = s.ring ∧
    (s.storeReadEnded).monitor = s.monitor ∧ (s.storeReadEnded).balance = s.balance ∧
    (s.storeReadEnded).frames = s.frames ∧ (s.storeReadEnded).engine = s.engine ∧
    (s.storeReadEnded).transfer = s.transfer := by
  unfold State.storeReadEnded
  (repeat' split) <;> simp

@[simp] theorem State.fillBank_keeps (k : BankId) (n : Nat) (p : Profile) (s : State) :
    (s.fillBank k n p).pending = s.pending ∧ (s.fillBank k n p).powered = s.powered ∧
    (s.fillBank k n p).pins = s.pins ∧ (s.fillBank k n p).line = s.line ∧ (s.fillBank k n p).run = s.run ∧
    (s.fillBank k n p).travel = s.travel ∧ (s.fillBank k n p).ring = s.ring ∧
    (s.fillBank k n p).monitor = s.monitor ∧ (s.fillBank k n p).frames = s.frames ∧
    (s.fillBank k n p).transfer = s.transfer ∧ (s.fillBank k n p).store = s.store := by
  unfold State.fillBank
  simp

@[simp] theorem State.reportLoad_keeps (l : LoadRecord) (r : LoadResult) (s : State) :
    (s.reportLoad l r).pending = s.pending ∧ (s.reportLoad l r).powered = s.powered ∧
    (s.reportLoad l r).pins = s.pins ∧ (s.reportLoad l r).run = s.run ∧
    (s.reportLoad l r).travel = s.travel ∧ (s.reportLoad l r).ring = s.ring ∧
    (s.reportLoad l r).monitor = s.monitor ∧ (s.reportLoad l r).balance = s.balance ∧
    (s.reportLoad l r).frames = s.frames ∧ (s.reportLoad l r).engine = s.engine ∧
    (s.reportLoad l r).transfer = s.transfer := by
  unfold State.reportLoad
  simp

@[simp] theorem State.acceptLoad_keeps (n : Nat) (k : BankId) (s : State) :
    (s.acceptLoad n k).pending = s.pending ∧ (s.acceptLoad n k).powered = s.powered ∧
    (s.acceptLoad n k).pins = s.pins ∧ (s.acceptLoad n k).run = s.run ∧
    (s.acceptLoad n k).travel = s.travel ∧ (s.acceptLoad n k).ring = s.ring ∧
    (s.acceptLoad n k).monitor = s.monitor ∧ (s.acceptLoad n k).frames = s.frames ∧
    (s.acceptLoad n k).transfer = s.transfer := by
  unfold State.acceptLoad
  dsimp only
  (repeat' split) <;> simp

@[simp] theorem State.loadChosen_keeps (c : Choice) (s : State) :
    (s.loadChosen c).pending = s.pending ∧ (s.loadChosen c).powered = s.powered ∧
    (s.loadChosen c).pins = s.pins ∧ (s.loadChosen c).run = s.run ∧ (s.loadChosen c).travel = s.travel ∧
    (s.loadChosen c).ring = s.ring ∧ (s.loadChosen c).monitor = s.monitor ∧
    (s.loadChosen c).frames = s.frames ∧ (s.loadChosen c).transfer = s.transfer := by
  unfold State.loadChosen
  dsimp only
  (repeat' split) <;> simp

@[simp] theorem State.loadById_keeps (body : List Byte) (s : State) :
    (s.loadById body).pending = s.pending ∧ (s.loadById body).powered = s.powered ∧
    (s.loadById body).pins = s.pins ∧ (s.loadById body).run = s.run ∧
    (s.loadById body).travel = s.travel ∧ (s.loadById body).ring = s.ring ∧
    (s.loadById body).monitor = s.monitor ∧ (s.loadById body).frames = s.frames ∧
    (s.loadById body).transfer = s.transfer := by
  unfold State.loadById
  (repeat' split) <;> simp

@[simp] theorem State.loadByBore_keeps (body : List Byte) (s : State) :
    (s.loadByBore body).pending = s.pending ∧ (s.loadByBore body).powered = s.powered ∧
    (s.loadByBore body).pins = s.pins ∧ (s.loadByBore body).run = s.run ∧
    (s.loadByBore body).travel = s.travel ∧ (s.loadByBore body).ring = s.ring ∧
    (s.loadByBore body).monitor = s.monitor ∧ (s.loadByBore body).frames = s.frames ∧
    (s.loadByBore body).transfer = s.transfer := by
  unfold State.loadByBore
  (repeat' split) <;> simp

@[simp] theorem State.loadPassed_keeps (l : LoadRecord) (r : List Byte) (s : State) :
    (s.loadPassed l r).pending = s.pending ∧ (s.loadPassed l r).powered = s.powered ∧
    (s.loadPassed l r).pins = s.pins ∧ (s.loadPassed l r).run = s.run ∧
    (s.loadPassed l r).travel = s.travel ∧ (s.loadPassed l r).ring = s.ring ∧
    (s.loadPassed l r).monitor = s.monitor ∧ (s.loadPassed l r).frames = s.frames ∧
    (s.loadPassed l r).transfer = s.transfer := by
  unfold State.loadPassed
  simp

@[simp] theorem State.loadFailed_keeps (l : LoadRecord) (i : Fin 16) (s : State) :
    (s.loadFailed l i).pending = s.pending ∧ (s.loadFailed l i).powered = s.powered ∧
    (s.loadFailed l i).pins = s.pins ∧ (s.loadFailed l i).run = s.run ∧
    (s.loadFailed l i).travel = s.travel ∧ (s.loadFailed l i).ring = s.ring ∧
    (s.loadFailed l i).monitor = s.monitor ∧ (s.loadFailed l i).balance = s.balance ∧
    (s.loadFailed l i).frames = s.frames ∧ (s.loadFailed l i).transfer = s.transfer := by
  unfold State.loadFailed
  dsimp only
  simp

@[simp] theorem State.loadEnded_keeps (c : List Host.Cell) (s : State) :
    (s.loadEnded c).pending = s.pending ∧ (s.loadEnded c).powered = s.powered ∧
    (s.loadEnded c).pins = s.pins ∧ (s.loadEnded c).run = s.run ∧ (s.loadEnded c).travel = s.travel ∧
    (s.loadEnded c).ring = s.ring ∧ (s.loadEnded c).monitor = s.monitor ∧
    (s.loadEnded c).frames = s.frames ∧ (s.loadEnded c).transfer = s.transfer := by
  unfold State.loadEnded
  dsimp only
  (repeat' split) <;> simp

end Sys2Proof.Machine
end

