-- ==== Sys2Proof/Tests/Slice0.lean ====
section
/-! SUPPORT. The model's own tests: the checks of WellFormed, small steps of the commands on states built here, values
of the manual's worked examples, and for every statement a state that meets its hypotheses. -/

namespace Sys2Proof.Tests

open Sys2Proof Sys2Proof.Machine

-- One test at a time: each is small, and hundreds waiting on one another cost a thread each.
set_option Elab.async false

/-! ## Well-formed commands: each check refuses a term -/

theorem test_wf_messageReceived : (Instr.messageReceived []).wellFormed = false := by decide
theorem test_wf_unknownKind : (Instr.unknownKind 0x23 1 []).wellFormed = false := by decide
theorem test_wf_unknownKind_fits : (Instr.unknownKind 0x24 1 []).wellFormed = true := by decide
set_option maxRecDepth 8000 in
theorem test_wf_unknownKind_long :
    (Instr.unknownKind 0x24 1 (List.replicate 299 0)).wellFormed = false := by decide
set_option maxRecDepth 8000 in
theorem test_wf_long_bodies :
    ([.identify, .status, .getParam, .setParam, .clearConditions, .reset, .runStart, .runStop, .trigger, .single, .park,
        .wake, .sleep, .setPosition, .segmentEnable, .segmentDisable, .segmentAdmit, .segmentCeiling, .segmentReport,
        .monitorReport, .balanceHold, .balanceRelease, .balanceRestart, .zoneReport, .releaseFrame, .slotReport,
        .transferGrant, .transferStopKeep, .transferStopRelease, .loadProfileById, .loadProfileByBore, .storeStage,
        .storePermit, .storeRevoke, .storeLockdown, .storeCommit, .storeErase, .storeProtect, .storeRead,
        .storeDirectory] : List (Byte → List Byte → Instr)).all
      (fun c => !(c 1 (List.replicate 299 0)).wellFormed && (c 1 (List.replicate 298 0)).wellFormed) = true := by
  decide
theorem test_wf_segmentEnable : (Instr.segmentEnable 1 [0, 2, 0]).wellFormed = false := by decide
theorem test_wf_segmentDisable : (Instr.segmentDisable 1 [0, 1, 0]).wellFormed = false := by decide
theorem test_wf_segmentAdmit : (Instr.segmentAdmit 1 [0, 4, 0]).wellFormed = false := by decide
theorem test_wf_segmentCeiling : (Instr.segmentCeiling 1 [0, 3, 9]).wellFormed = false := by decide
theorem test_wf_transferStopKeep : (Instr.transferStopKeep 1 [0, 1, 0, 0, 0, 2]).wellFormed = false := by decide
theorem test_wf_transferStopRelease : (Instr.transferStopRelease 1 [0, 1, 0, 0, 0, 1]).wellFormed = false := by decide
theorem test_wf_loadProfileById : (Instr.loadProfileById 1 [2, 7, 150, 0]).wellFormed = false := by decide
theorem test_wf_loadProfileByBore : (Instr.loadProfileByBore 1 [1, 3, 0, 0]).wellFormed = false := by decide
theorem test_wf_midStrobe_current :
    (Instr.midStrobe ⟨0, 1, Table.fill 12 0, Table.fill 12 0⟩).wellFormed = false := by decide
theorem test_wf_midStrobe_supply :
    (Instr.midStrobe ⟨1, 0, Table.fill 12 0, Table.fill 12 0⟩).wellFormed = false := by decide
theorem test_wf_scanConversionEnd_code : (Instr.scanConversionEnd 4096 0).wellFormed = false := by decide
theorem test_wf_scanConversionEnd_low : (Instr.scanConversionEnd 0 (-41)).wellFormed = false := by decide
theorem test_wf_scanConversionEnd_high : (Instr.scanConversionEnd 0 151).wellFormed = false := by decide
theorem test_wf_strobeConversionEnd : (Instr.strobeConversionEnd 4096).wellFormed = false := by decide
theorem test_wf_loadEnd : (Instr.loadEnd [(4096, 1)]).wellFormed = false := by decide
theorem test_wf_erasingEnd : (Instr.erasingEnd [(4096, 1)]).wellFormed = false := by decide
theorem test_wf_programmingEnd : (Instr.programmingEnd [(4096, 1)]).wellFormed = false := by decide

/-- No word spells a command (log 20). -/
theorem test_decodeTableWord_none (n w : Nat) : decodeTableWord n w = none := rfl

/-! ## States to step from -/

/-- The part at rest after start-up, its array erased. -/
def ready : State := { State.reset with
  run := { State.reset.run with part := .ready }
  store := { State.reset.store with
    scanning := false, directory := Table.fill 16 .empty, protectSet := 0 } }

/-- The part at rest in another part state. -/
def inPart (p : PartState) : State := { ready with run := { ready.run with part := p } }

/-- An open run. -/
def openRun (m : RunMode) (requested : Nat) : RunRecord where
  number := 1
  mode := m
  requested := requested
  captured := 0
  skipped := 0
  startPosition := 0
  endPosition := none
  endReason := none

/-- A run is open and the part is RUNNING. -/
def running (m : RunMode) : State := { ready with
  run := { ready.run with part := .running, runNumber := 1, current := some (openRun m 0) } }

/-- A frame of run 1 under bank A. -/
def frame (state : FrameState) (number : Nat) : Frame where
  state := state
  number := number
  run := some 1
  source := .host
  position := 0
  bank := .a
  profileId := 0
  flags := FrameFlags.atAllocation 0
  strobe := some { speed := 0, duration := 2000, levels := Table.fill 12 96 }
  stats := some (Table.fill 48 { samples := 0, sum := 0, clipped := 0 })
  gains := some (Table.fill 48 256)
  tilesDone := 0
  nextUnsent := 0
  abandon := false
  raw := []
  tiles := []

/-- A slot filled. -/
def filled (i : Fin 6) (f : Frame) (s : State) : State :=
  { s with frames := { s.frames with slots := s.frames.slots.set i (some f) } }

/-- A strobe in progress. -/
def strobeFor (x : StrobeTarget) (mid : Bool) : Strobe where
  target := x
  duration := 2000
  levels := Table.fill 12 96
  midPassed := mid

/-- The ring lit. -/
def lit (x : StrobeTarget) (mid : Bool) (s : State) : State := { s with
  ring := { s.ring with
    strobe := some (strobeFor x mid)
    guard := some 2500
    drives := Table.fill 12 96
    lit := true
    expose := true } }

/-- A slot is EXPOSING in a run, with its strobe lit. -/
def exposing (mid : Bool) : State :=
  lit (.capture 0) mid (filled 0 (frame .exposing 1) (running .host))

/-- A slot is ARMED, and its strobe request on the way. -/
def armed : State :=
  let s := filled 0 (frame .armed 1) (running .host)
  { s with ring := { s.ring with request := some 0 } }

/-- A slot is ARMED and deferred. -/
def deferred : State :=
  let s := filled 0 (frame .armed 1) (running .host)
  { s with
    pins := { s.pins with excl := true }
    ring := { s.ring with deferral := some { target := .capture 0, timeout := 20 } } }

/-- A slot is READING, the port in the state given. -/
def reading (p : Port) : State :=
  let s := filled 0 (frame .reading 1) (running .host)
  { s with frames := { s.frames with port := p, readoutLimit := some 250 } }

/-- The engine has slot 0 in hand with this next tile. -/
def correcting (n : Nat) : State :=
  let s := filled 0 (frame .correcting 1) ready
  { s with engine := { s.engine with hand := some (0, n) } }

/-- Slot 0 is SENDING with these credits, and this tile on the line. -/
def sending (credits : Nat) (tile : Option Nat) : State :=
  let s := filled 0 { frame .sending 1 with nextUnsent := tile.getD 0 } ready
  { s with
    transfer := some { slot := 0, frame := 1, credits := credits, onLine := tile }
    line := { s.line with onLine := tile.map fun _ => { party := .tiles, bytes := [] } } }

/-- The outbound queue holds `n` notices or replies. -/
def queued (n : Nat) (s : State) : State :=
  { s with line := { s.line with outbound := List.replicate n (.reply 0x81 0 (.done .nothing)) } }

/-- The converter is at work. -/
def converting (c : Channel) (k : ConversionKind) (s : State) : State :=
  { s with monitor := { s.monitor with conversion := some { channel := c, kind := k, resolution := 12 } } }

/-- An operation in progress, begun. -/
def operating (k : OperationKind) (p : Phase) : State :=
  { ready with store := { ready.store with
      operation := some { kind := k, phase := p, begun := true, suspension := .none, count := 0, tag := 9 } } }

/-- A thing of the next state, when there is one. -/
def seen {α : Type} (o : Host.Outcome State Fault Refusal) (f : State → α) : Option α :=
  match o with
  | .next t => some (f t)
  | .fault _ => none
  | .refused _ => none

/-! ## Small steps of the commands -/

theorem test_powerOnReset : seen (exec .powerOnReset (running .host)) (fun t => (t.run.part, t.run.runNumber)) =
    some (.startup, 0) := by decide

theorem test_resetInput_keeps_run_number :
    seen (exec .resetInput (running .host)) (fun t => (t.run.part, t.run.runNumber, t.run.last)) =
      some (.startup, 1, none) := by decide

theorem test_brownout_then_nothing :
    seen (exec .brownout ready) (fun t => seen (exec .stallExpiry t) fun u => u.powered) = some (some false) := by
  decide

theorem test_storeScanComplete_starts_selfTest :
    seen (exec .storeScanComplete State.reset) (fun t => (t.run.selfTest, t.ring.lit, t.ring.expose, t.ring.guard)) =
      some (some 0, true, false, some 125) := by decide +kernel

/-- TRIGGER with tag 5 and no body, after a byte of noise. -/
theorem test_messageReceived :
    seen (exec (.messageReceived (0 :: envelope 9 5 [])) ready) (fun t => (t.line.receiver, t.line.inbound)) =
      some (.hunting, [{ kind := 9, tag := 5, body := [] }]) := by decide +kernel

theorem test_syncByteReceived :
    seen (exec .syncByteReceived ready) (fun t => t.line.receiver) = some (.receiving []) := by decide

theorem test_gapLimitExpiry :
    seen (exec .gapLimitExpiry { ready with line := { ready.line with receiver := .receiving [2, 0] } })
      (fun t => (t.line.receiver, Condition.isIn .linkCheck t.line.conditions)) = some (.hunting, true) := by decide

theorem test_unknownKind :
    seen (exec (.unknownKind 0x24 7 [1]) ready) (fun t => t.line.outbound) =
      some [.reply 0xFF 7 (.unknownKind 0x24)] := by decide

theorem test_queueMessageStart_and_messageSent :
    seen (exec .queueMessageStart (queued 2 ready))
      (fun t => seen (exec .messageSent t) fun u => (u.line.outbound.length, u.line.onLine)) =
      some (some (1, none)) := by decide

theorem test_tileStart :
    seen (exec .tileStart (sending 2 none)) (fun t => t.transfer.map fun r => (r.credits, r.onLine)) =
      some (some (1, some 0)) := by decide +kernel

theorem test_tileMessageSent :
    seen (exec .tileMessageSent (sending 2 (some 4))) (fun t => (t.frames.slots.get 0).map Frame.nextUnsent) =
      some (some 5) := by decide

theorem test_identify : seen (exec (.identify 3 []) State.reset) (fun t => t.line.outbound.length) = some 1 := by
  decide

theorem test_status : seen (exec (.status 3 []) (inPart .dormant)) (fun t => t.line.outbound.length) = some 1 := by
  decide

theorem test_getParam : seen (exec (.getParam 3 [28]) ready) (fun t => t.line.outbound) =
    some [.reply 0x83 3 (.done (.param 28 1048575))] := by decide

theorem test_setParam :
    seen (exec (.setParam 3 [1, 40, 0, 0, 0]) ready) (fun t => t.line.params.value .triggerSpacing) = some 40 := by
  decide

/-- The cross-check: a trip level must lie 6 above the start of derating. -/
theorem test_setParam_cross_check :
    seen (exec (.setParam 3 [20, 75, 0, 0, 0]) ready) (fun t => t.line.outbound) =
      some [.reply 0x84 3 (.refused .badValue)] := by decide

theorem test_clearConditions :
    seen (exec (.clearConditions 3 [255, 255, 15, 0])
        { ready with line := { ready.line with conditions := 0x00401#20 } }) (fun t => t.line.conditions) =
      some 0 := by decide

theorem test_reset : seen (exec (.reset 3 []) ready) (fun t => t.line.inHand.map InHand.wait) =
    some (some .reset) := by decide

theorem test_runStart : seen (exec (.runStart 3 [1, 0, 0, 0]) ready) (fun t => (t.run.part, t.travel.countdown)) =
    some (.running, some 200) := by decide

theorem test_runStart_first_now :
    seen (exec (.runStart 3 [3, 0, 0, 1]) ready) (fun t => (t.ring.request, (t.frames.slots.get 0).map Frame.source)) =
      some (some 0, some .host) := by decide

theorem test_runStop : seen (exec (.runStop 3 []) (running .host)) (fun t => (t.run.part, t.line.outbound.length)) =
    some (.ready, 2) := by decide

theorem test_trigger : seen (exec (.trigger 3 []) (running .host)) (fun t => t.line.outbound) =
    some [.reply 0x89 3 (.done (.trigger (.served 0 1)))] := by decide

theorem test_trigger_pending :
    seen (exec (.trigger 3 []) (exposing true)) (fun t => t.run.pendingTrigger.map Trigger.source) =
      some (some .host) := by decide

theorem test_single : seen (exec (.single 3 []) ready) (fun t => ((t.frames.slots.get 0).map Frame.run, t.run.part)) =
    some (some none, .ready) := by decide

theorem test_park : seen (exec (.park 3 []) ready) (fun t => t.run.part) = some .parked := by decide

theorem test_wake : seen (exec (.wake 3 []) (inPart .dormant)) (fun t => (t.run.part, t.run.wakeTimer)) =
    some (.waking, some 200) := by decide

theorem test_sleep : seen (exec (.sleep 3 []) ready) (fun t => (t.run.part, t.monitor.conversion, t.travel.motion)) =
    some (.dormant, none, some 0) := by decide

theorem test_intervalExpiry :
    let s := running .interval
    seen (exec .intervalExpiry { s with run := { s.run with intervalTimer := some 500 } })
      (fun t => (t.frames.slots.get 0).map Frame.source) = some (some .interval) := by decide

theorem test_silenceExpiry :
    seen (exec .silenceExpiry (running .host)) (fun t => (t.run.part, t.run.last.map RunRecord.endReason)) =
      some (.parked, some (some .silence)) := by decide

theorem test_wakeSettleExpiry :
    let s := inPart .waking
    seen (exec .wakeSettleExpiry { s with
        run := { s.run with wakeTimer := some 200, wakeReason := some .motion } }) (fun t => t.line.outbound) =
      some [.notice (.stateChanged .ready .motion)] := by decide

theorem test_setPosition :
    seen (exec (.setPosition 3 [255, 255, 255, 255]) ready) (fun t => (t.travel.position, t.line.outbound)) =
      some (-1, [.reply 0x8E 3 (.done (.position 0))]) := by decide

/-- Section 2.4: forward counts run the countdown down, and at 0 a trigger is issued and TRIGGER_SPACING reloaded. -/
theorem test_quadratureChange_forward :
    let s := running .distance
    seen (exec (.quadratureChange true false 7) { s with
        travel := { s.travel with position := 1034, countdown := some 1 } })
      (fun t => (t.travel.countdown, (t.frames.slots.get 0).map Frame.position)) =
      some (some 200, some 1035) := by decide

/-- Section 2.4: a reverse count leaves the countdown at its cap. -/
theorem test_quadratureChange_reverse :
    let s := running .distance
    seen (exec (.quadratureChange false true 7) { s with travel := { s.travel with countdown := some 200 } })
      (fun t => (t.travel.position, t.travel.countdown, t.travel.direction)) =
      some (-1, some 200, .reverse) := by decide

/-- Section 2.6: 30 edges in 100 ms are 75 mm/s. -/
theorem test_speedWindowExpiry :
    seen (exec .speedWindowExpiry { ready with travel := { ready.travel with windowCount := 30 } })
      (fun t => (t.travel.speed, t.travel.method, t.travel.windowCount)) = some (75, .window, 0) := by decide

/-- Section 2.6: 3 edges and a period of 31,250 µs are 8 mm/s. -/
theorem test_speedWindowExpiry_period :
    seen (exec .speedWindowExpiry { ready with travel :=
        { ready.travel with windowCount := 3, period := some 31250 } })
      (fun t => (t.travel.speed, t.travel.method)) = some (8, .period) := by decide

theorem test_stallExpiry :
    seen (exec .stallExpiry { ready with travel :=
        { ready.travel with speed := 8, direction := .forward, stallTimer := some 1000 } })
      (fun t => (t.travel.speed, t.travel.direction, t.travel.stallTimer)) = some (0, .stalled, none) := by decide

/-- Segment 3 is FAULTED. -/
def faulty : State := { ready with ring := { ready.ring with
  segments := ready.ring.segments.set 3 { Segment.atReset with state := .faulted, health := .shorted, faultCount := 2 } } }

theorem test_segmentEnable :
    seen (exec (.segmentEnable 3 [3, 1, 0]) faulty) (fun t => t.line.outbound) =
      some [.reply 0x8F 3 (.refused .wrongState)] := by decide

theorem test_segmentDisable :
    seen (exec (.segmentDisable 3 [11, 2, 0]) faulty) (fun t => (t.ring.segments.get 11).state) =
      some .disabled := by decide

theorem test_segmentAdmit :
    seen (exec (.segmentAdmit 3 [3, 3, 0]) faulty) (fun t => t.ring.segments.get 3) =
      some { Segment.atReset with state := .enabled } := by decide

theorem test_segmentCeiling :
    seen (exec (.segmentCeiling 3 [3, 4, 150]) faulty)
      (fun t => ((t.ring.segments.get 3).hostCeiling, (t.ring.segments.get 3).state)) =
      some (150, .faulted) := by decide

theorem test_segmentReport : seen (exec (.segmentReport 3 []) ready) (fun t => t.line.outbound.length) = some 1 := by
  decide

/-- Section 3.3's segments: segment 5 at a host ceiling of 150, segment 9 FAULTED. -/
def deratedSegments : Table 12 Segment :=
  ((Table.fill 12 Segment.atReset).set 5 { Segment.atReset with hostCeiling := 150 }).set 9
    { Segment.atReset with state := .faulted }

/-- Section 3.3's strobe: supply derate step 4, and group 2 at a ceiling of 191. -/
def derated : State := { ready with
  ring := { ready.ring with segments := deratedSegments }
  monitor := { ready.monitor with supplyStep := 4, thermalStep := (Table.fill 3 0).set 2 2 }
  balance := { ready.balance with
    energies :=
      ⟨[160000, 180000, 200000, 120000, 96000, 160000, 80000, 100000, 176000, 5, 140000, 240000], rfl⟩ } }

/-- Section 3.3: the levels after R40. -/
theorem test_levels_of_section_3_3 :
    ((derated.strobeLevels 800).map FormedLevel.level).items =
      [162, 182, 202, 121, 97, 121, 81, 101, 155, 0, 142, 155] := by decide +kernel

/-- Section 4.11: durations and guard times. -/
theorem test_durations_of_section_4_11 :
    ([0, 8, 125, 150, 300, 65535].map fun v =>
      (strobeDuration v 250 2000, guardTime (strobeDuration v 250 2000))) =
      [(2000, 2500), (2000, 2500), (2000, 2500), (1666, 2082), (833, 1041), (20, 25)] ∧
    guardTime 4000 = 5000 := by decide

theorem test_strobeRequest :
    seen (exec .strobeRequest armed) (fun t => (t.ring.lit, t.ring.expose, t.ring.guard, t.ring.drives.get 7)) =
      some (true, true, some 2500, 96) := by decide +kernel

theorem test_exclAsserted_defers :
    seen (exec .exclAsserted armed) (fun t => seen (exec .strobeRequest t) fun u => (u.ring.deferral, u.ring.lit)) =
      some (some (some { target := .capture 0, timeout := 20 }, false)) := by decide

theorem test_exclRelease : seen (exec .exclRelease deferred) (fun t => (t.ring.deferral, t.ring.lit)) =
    some (none, true) := by decide +kernel

/-- Section 4.12: the timeout frees the slot and counts it skipped. -/
theorem test_deferralTimerExpiry :
    seen (exec .deferralTimerExpiry deferred)
      (fun t => (t.frames.slots.get 0, t.run.current.map RunRecord.skipped,
        Condition.isIn .exclusionTimeout t.line.conditions)) = some (none, some 1, true) := by decide

/-- The senses of a good ring, but for an open string in segment 3. -/
def senses : StrobeSenses :=
  ⟨10, 1000, (Table.fill 12 1000).set 3 1, Table.fill 12 900⟩

theorem test_midStrobe :
    seen (exec (.midStrobe senses) (exposing false))
      (fun t => ((t.ring.segments.get 3).faultCount, (t.ring.segments.get 4).health,
        t.monitor.conversion.map Conversion.kind)) = some (1, .good, some (.strobe 0 1)) := by decide +kernel

theorem test_strobeEnd :
    seen (exec .strobeEnd (exposing true))
      (fun t => (t.ring.lit, (t.frames.slots.get 0).map Frame.state, t.frames.readoutLimit)) =
      some (false, some .reading, some 250) := by decide

theorem test_strobeGuardExpiry :
    seen (exec .strobeGuardExpiry (exposing true))
      (fun t => (t.ring.lockout.guard, (t.frames.slots.get 0).map fun f => f.flags.cut, t.run.part)) =
      some (true, some true, .stopping) := by decide

/-- Section 5.8: 77 °C is step 4 of group 1. -/
theorem test_scanConversionEnd_derate :
    seen (exec (.scanConversionEnd 0 77) (converting .ringT1 .scan ready))
      (fun t => (t.monitor.thermalStep.get 1, groupCeiling (t.monitor.thermalStep.get 1))) = some (4, 127) := by decide

/-- Section 5.8: 80 °C trips. -/
theorem test_scanConversionEnd_trip :
    seen (exec (.scanConversionEnd 0 80) (converting .ringT1 .scan (exposing true)))
      (fun t => (t.ring.lockout.thermal, t.ring.lit, t.run.part)) = some (true, false, .stopping) := by decide

/-- Section 5.7: 15.8 V is below 16.0 V, and the budget falls to 2,676. -/
theorem test_strobeConversionEnd :
    seen (exec (.strobeConversionEnd 2023) (converting .supply (.strobe 0 1) (exposing true)))
      (fun t => (t.monitor.lastStrobe, ringBudget t.monitor.supplyStep)) = some (some (158, 1), 2676) := by decide

theorem test_monitorReport : seen (exec (.monitorReport 3 []) ready) (fun t => t.line.outbound.length) = some 1 := by
  decide

theorem test_sensorFrameStart :
    seen (exec .sensorFrameStart (reading .waiting)) (fun t => t.frames.port) = some (.receiving 0 false) := by decide

theorem test_sensorLine :
    seen (exec (.sensorLine []) (reading (.receiving 1024 false))) (fun t => t.frames.port) =
      some (.receiving 1025 true) := by decide

theorem test_sensorFrameEnd_short :
    seen (exec .sensorFrameEnd (reading (.receiving 1023 false)))
      (fun t => (t.frames.slots.get 0, Condition.isIn .sensorFrameError t.line.conditions)) =
      some (none, true) := by decide

theorem test_readoutLimitExpiry :
    seen (exec .readoutLimitExpiry (reading (.receiving 9 false))) (fun t => t.run.current.map RunRecord.skipped) =
      some (some 1) := by decide

theorem test_balanceHold : seen (exec (.balanceHold 3 []) ready) (fun t => t.balance.state) = some .held := by decide

theorem test_balanceRelease : seen (exec (.balanceRelease 3 []) ready) (fun t => t.line.outbound) =
    some [.reply 0x93 3 (.refused .wrongState)] := by decide

theorem test_balanceRestart :
    seen (exec (.balanceRestart 3 []) (exposing true)) (fun t => (t.balance.stale, t.balance.energies.get 11)) =
      some (some 1, 192000) := by decide

theorem test_zoneReport : seen (exec (.zoneReport 3 []) ready) (fun t => t.line.outbound.length) = some 1 := by decide

theorem test_releaseFrame :
    seen (exec (.releaseFrame 3 [0, 1, 0, 0, 0]) (correcting 5)) (fun t => (t.frames.slots.get 0).map Frame.abandon) =
      some (some true) := by decide

/-- R105, R173: a FREE slot's fields are sent as absent ones, so that it takes as many bytes as any other. -/
theorem test_slotReport_free :
    slotBytes none = byteOf 1 ++ List.replicate 44 0 ∧
      slotBytes (some (frame .sending 1).summary) =
        [8, 1, 0, 0, 0, 1, 0, 0, 0, 3, 1, 0, 0, 0, 0, 1, 1, 0, 1, 0, 1, 1, 0, 1, 0, 1, 0, 1, 0, 0, 208, 7, 1] ++
          List.replicate 12 96 := by decide
/-- R95, R173: a verdict is six bytes; the absent ratio of a segment not ENABLED is 0, its absent mark has a presence
byte. -/
theorem test_verdict_bytes :
    verdictBytes { standing := .notEnabled, ratio := none, clamped := none, saturatedLast := true } =
        [3, 0, 0, 0, 0, 1] ∧
      verdictBytes { standing := .observed, ratio := some 1250, clamped := some true, saturatedLast := false } =
        [1, 226, 4, 1, 1, 0] := by decide
/-- R173: the next unsent tile of a stopped transfer, which can be 0, has a presence byte. -/
theorem test_stop_bytes :
    (Result.stop none none).bytes = [1, 0, 0] ∧ (Result.stop (some .held) (some 0)).bytes = [9, 1, 0] := by decide
set_option maxRecDepth 8000 in
/-- R174: a body too long for an inbound LENGTH is never decoded. -/
theorem test_storeStage_undecoded :
    exec (.storeStage 3 ([0, 0, 44, 1] ++ List.replicate 300 0)) ready = .next ready := rfl
theorem test_slotReport : seen (exec (.slotReport 3 []) ready) (fun t => t.line.outbound.length) = some 1 := by decide

theorem test_tileCompletion_abandoned :
    let s := correcting 5
    seen (exec .tileCompletion (filled 0 { frame .correcting 1 with abandon := true } s))
      (fun t => (t.frames.slots.get 0, t.engine.hand)) = some (none, none) := by decide

theorem test_transferGrant :
    seen (exec (.transferGrant 3 [0, 1, 0, 0, 0, 255, 32]) (filled 0 (frame .held 1) ready))
      (fun t => t.transfer.map Transfer.credits) = some (some 32) := by decide

theorem test_transferGrant_capped :
    seen (exec (.transferGrant 3 [0, 1, 0, 0, 0, 5, 32]) (sending 40 (some 4)))
      (fun t => t.transfer.map Transfer.credits) = some (some 64) := by decide

theorem test_transferStopKeep :
    seen (exec (.transferStopKeep 3 [0, 1, 0, 0, 0, 1]) (sending 0 none))
      (fun t => ((t.frames.slots.get 0).map Frame.state, t.transfer)) = some (some .held, none) := by decide

theorem test_transferStopRelease :
    seen (exec (.transferStopRelease 3 [0, 1, 0, 0, 0, 2]) (sending 0 (some 191)))
      (fun t => (t.line.inHand.map InHand.wait, seen (exec .tileMessageSent t) fun u => u.frames.slots.get 0)) =
      some (some (.stop 0 true), some none) := by decide

theorem test_loadProfileById : seen (exec (.loadProfileById 3 [1, 1, 0, 0]) ready) (fun t => t.line.outbound) =
    some [.reply 0x9A 3 (.refused .noProfile)] := by decide

theorem test_loadProfileByBore :
    let h : RecordHeader := { lens := 7, boreMin := 100, boreMax := 200, label := [] }
    seen (exec (.loadProfileByBore 3 [2, 7, 200, 0]) { ready with
        store := { ready.store with directory := ready.store.directory.set 15 (.valid h) } })
      (fun t => (t.store.load.map LoadRecord.profileId, t.engine.bankB.state, t.store.serving)) =
      some (some 16, .loading, some .load) := by decide

theorem test_loadEnd_nothing : seen (exec (.loadEnd []) ready) (fun t => t.store.load) = some none := by decide

theorem test_storeStage :
    seen (exec (.storeStage 3 [255, 15, 1, 0, 9]) ready) (fun t => t.store.staging.cells) = some [(4095, 9)] := by
  decide

theorem test_storeStage_outside :
    seen (exec (.storeStage 3 [255, 15, 2, 0, 9, 9]) ready) (fun t => t.line.outbound) =
      some [.reply 0x9B 3 (.refused .badValue)] := by decide

theorem test_storePermit_and_revoke :
    seen (exec (.storePermit 3 []) ready) (fun t => (t.store.permit,
      seen (exec (.storeRevoke 4 []) t) fun u => u.store.permit)) = some (true, some false) := by decide

theorem test_storeLockdown :
    seen (exec (.storeLockdown 3 []) (operating (.erase 4) .erasing))
      (fun t => (t.store.lockdown, t.store.operation, t.store.directory.get 4)) =
      some (true, none, .invalid) := by decide

theorem test_storeCommit : seen (exec (.storeCommit 3 [1]) ready) (fun t => t.line.outbound) =
    some [.reply 0x9E 3 (.refused .noPermit)] := by decide

theorem test_storeErase :
    seen (exec (.storeErase 3 [16]) { ready with store := { ready.store with permit := true } })
      (fun t => (t.store.directory.get 15, t.store.operation.map Operation.phase)) =
      some (.busy, some .erasing) := by decide

theorem test_storeProtect :
    seen (exec (.storeProtect 3 [5, 0]) { ready with store := { ready.store with permit := true } })
      (fun t => seen (exec (.programmingEnd []) t) fun u => u.store.protectSet) = some (some 5) := by decide

theorem test_storeRead_and_end :
    seen (exec (.storeRead 3 [1, 0, 0, 2, 0]) ready)
      (fun t => seen (exec .storeReadEnd t) fun u => u.line.outbound) =
      some (some [.reply 0xA2 3 (.done (.data [255, 255]))]) := by decide

theorem test_storeDirectory : seen (exec (.storeDirectory 3 []) ready) (fun t => t.line.outbound.length) =
    some 1 := by decide

theorem test_erasingEnd :
    seen (exec (.erasingEnd [(7, 0)]) (operating (.erase 4) .erasing))
      (fun t => (t.store.directory.get 4, t.store.lastResult)) = some (.invalid, some (.failed, 9)) := by decide

theorem test_programmingEnd :
    seen (exec (.programmingEnd []) (operating (.commit 4) .programming))
      (fun t => t.store.operation.map Operation.phase) = some (some .verifying) := by decide +kernel

theorem test_verifyingEnd :
    seen (exec .verifyingEnd (operating (.commit 4) .verifying))
      (fun t => (t.store.directory.get 4, t.store.lastResult)) = some (.invalid, some (.failed, 9)) := by
  decide +kernel

theorem test_suspensionPoint :
    seen (exec (.storeRead 3 [1, 0, 0, 2, 0]) (operating (.erase 4) .erasing))
      (fun t => seen (exec .suspensionPoint t) fun u => (u.store.serving, u.store.operation.map Operation.count)) =
      some (some (some .storeRead, some 1)) := by decide

theorem test_wprotAsserted_and_released :
    seen (exec .wprotAsserted (operating (.erase 4) .erasing))
      (fun t => (t.store.operation, seen (exec .wprotReleased t) fun u => u.pins.wprot)) =
      some (none, some false) := by decide

/-! ## Values of the manual's worked examples -/

theorem test_crc16 : crc16 [0x31, 0x32, 0x33, 0x34, 0x35, 0x36, 0x37, 0x38, 0x39] = 0x29B1#16 := by decide +kernel

theorem test_crc32 : crc32 [0x31, 0x32, 0x33, 0x34, 0x35, 0x36, 0x37, 0x38, 0x39] = 0xCBF43926#32 := by
  decide +kernel

/-- Section 6.8, frame 1: the sums 886,848 and 904,281 in band, and the new request. -/
theorem test_revisedEnergy_of_section_6_8 :
    revisedEnergy { numerator := 886848, denominator := 904281, zones := 12 } 25 96 2000 = 188298 := by decide

/-- Section 8.5: the zone of raw point (128, 128) under profile 0. -/
theorem test_zone_of_section_8_5 : Profile.builtin.geometry.zoneOfPoint 2048 2048 = 46 := by decide +kernel

/-! ## For every statement with hypotheses: states and operands that meet them -/

/-- Frames checked slot by slot. -/
theorem eachFrame {s : State} {p : Fin 6 → Frame → Bool}
    (h : ∀ j : Fin 6, (s.frames.slots.get j).all (p j) = true) (j : Fin 6) (f : Frame)
    (hf : s.frames.slots.get j = some f) : p j f = true := by
  have := h j
  rw [hf] at this
  exact this

theorem noneArmed {s : State} (h : ∀ j : Fin 6, (s.frames.slots.get j).all (fun f => f.state != .armed) = true)
    (j : Fin 6) (f : Frame) (hf : s.frames.slots.get j = some f) : f.state ≠ .armed := by
  have := eachFrame (p := fun _ f => f.state != .armed) h j f hf
  simpa using this

theorem noneReading {s : State} (h : ∀ j : Fin 6, (s.frames.slots.get j).all (fun f => f.state != .reading) = true)
    (j : Fin 6) (f : Frame) (hf : s.frames.slots.get j = some f) : f.state ≠ .reading := by
  have := eachFrame (p := fun _ f => f.state != .reading) h j f hf
  simpa using this

theorem idlePath {s : State} (h : ∀ j : Fin 6, (s.frames.slots.get j).all (fun f => !f.state.onSensorPath) = true) :
    s.pathIdle := fun j f hf => by
  have := eachFrame (p := fun _ f => !f.state.onSensorPath) h j f hf
  simpa using this

theorem busyPath {s : State} (i : Fin 6) (f : Frame) (h : s.frames.slots.get i = some f)
    (b : f.state.onSensorPath = true) : ¬ s.pathIdle := fun hi => by
  have := hi i f h
  simp [b] at this

theorem othersOff {s : State} {i : Fin 6}
    (h : ∀ j : Fin 6, (s.frames.slots.get j).all (fun f => decide (j = i) || !f.state.onSensorPath) = true)
    (j : Fin 6) (f : Frame) (hn : j ≠ i) (hf : s.frames.slots.get j = some f) : f.state.onSensorPath = false := by
  have := eachFrame (p := fun j f => decide (j = i) || !f.state.onSensorPath) h j f hf
  simpa [hn] using this

/-- O1 -/
theorem test_witness_StepRunsFrontCommand :
    ({ ready with pending := [.stallExpiry] } : State).pending = .stallExpiry :: [] := rfl

/-- A body short enough for an inbound LENGTH. -/
theorem short {n : Nat} (h : Nat.ble n 298 = true := by rfl) : n ≤ 298 :=
  Nat.le_of_ble_eq_true h

/-- O2: the three part states that screen, and a request each. -/
theorem test_witness_ScreenedRequestIsRefusedWrongState :
    (requestOf (.trigger 5 []) = some (.trigger, 5, []) ∧ (Instr.trigger 5 []).wellFormed = true ∧
      State.reset.takes RequestKind.trigger.byte 5 [] ∧ screened State.reset.run.part .trigger) ∧
    ((inPart .dormant).takes RequestKind.trigger.byte 5 [] ∧ screened (inPart .dormant).run.part .trigger) ∧
    ((inPart .waking).takes RequestKind.wake.byte 5 [] ∧ screened (inPart .waking).run.part .wake) :=
  ⟨⟨rfl, rfl, ⟨⟨rfl, rfl⟩, rfl, short, .inl rfl⟩, ⟨by decide, by decide⟩⟩,
    ⟨⟨⟨rfl, rfl⟩, rfl, short, .inl rfl⟩, ⟨by decide, by decide, by decide⟩⟩,
    ⟨⟨⟨rfl, rfl⟩, rfl, short, .inl rfl⟩, ⟨by decide, by decide⟩⟩⟩

/-- O3: a body one byte short, one byte long, and a staged length that is not the data's. -/
theorem test_witness_BodyLengthsAreTested :
    (ready.takes RequestKind.setParam.byte 5 [1, 0, 0, 0] ∧ ¬ screened ready.run.part .setParam ∧
      RequestKind.setParam.bodyLength ≠ some 4) ∧
    RequestKind.setParam.bodyLength ≠ some 6 ∧
    (ready.takes RequestKind.storeStage.byte 5 [0, 0, 2, 0, 9] ∧ ¬ screened ready.run.part .storeStage ∧
      [(0 : Byte), 0, 2, 0, 9].length ≠ 4 + le2 2 0) ∧
    [(0 : Byte), 0, 2].length < 4 :=
  ⟨⟨⟨⟨rfl, rfl⟩, rfl, short, .inl rfl⟩, id, by decide⟩, by decide, ⟨⟨⟨rfl, rfl⟩, rfl, short, .inl rfl⟩, id, by decide⟩, by decide⟩

/-- O4: the kinds below and above the table, and the last. -/
theorem test_witness_UndefinedKindIsRefusedUnknownKind :
    State.reset.takes 0x00 5 [] ∧ (0x00 : Byte).toNat = 0 ∧ ready.takes 0x24 5 [1] ∧ 0x23 < (0x24 : Byte).toNat ∧
      (inPart .dormant).takes 0xFF 5 [] ∧ 0x23 < (0xFF : Byte).toNat :=
  ⟨⟨⟨rfl, rfl⟩, rfl, short, .inl rfl⟩, rfl, ⟨⟨rfl, rfl⟩, rfl, short, .inl rfl⟩, by decide, ⟨⟨rfl, rfl⟩, rfl, short, .inl rfl⟩, by decide⟩

/-- A message waits in the inbound buffer. -/
def waitingStatus : State :=
  { State.reset with line := { State.reset.line with inbound := [{ kind := 2, tag := 5, body := [] }] } }

/-- O5 -/
theorem test_witness_IdentifyAndStatusAreAnswered :
    State.reset.takes 0x01 5 [] ∧ waitingStatus.takes 0x02 5 [] ∧ (running .host).takes 0x02 5 [] ∧
      (running .host).run.current = some (openRun .host 0) ∧ waitingStatus.run.current = none :=
  ⟨⟨⟨rfl, rfl⟩, rfl, short, .inl rfl⟩, ⟨⟨rfl, rfl⟩, rfl, short, .inr rfl⟩, ⟨⟨rfl, rfl⟩, rfl, short, .inl rfl⟩, rfl, rfl⟩

/-- Any request is handled in the part at rest, and so in each of the four part states. -/
theorem ready_handles (k : RequestKind) (tag : Byte) (body : List Byte)
    (h : Nat.ble body.length 298 = true := by rfl) : ready.handles k tag body :=
  ⟨⟨⟨rfl, rfl⟩, rfl, short h, .inl rfl⟩, rfl⟩

theorem running_handles (m : RunMode) (k : RequestKind) (tag : Byte) (body : List Byte)
    (h : Nat.ble body.length 298 = true := by rfl) : (running m).handles k tag body :=
  ⟨⟨⟨rfl, rfl⟩, rfl, short h, .inl rfl⟩, rfl⟩

/-- O6: an ENABLED and a FAULTED segment; a conversion in flight and none; a slot FREE and one filled. -/
theorem test_witness_ReportsCarryTheBlocksAsTheyStand :
    faulty.handles .segmentReport 5 [] ∧ (faulty.ring.segments.get 0).state = .enabled ∧
      (faulty.ring.segments.get 3).state ≠ .enabled ∧ ready.handles .monitorReport 5 [] ∧
      ready.monitor.conversion = some { channel := .supply, kind := .scan, resolution := 12 } ∧
      ({ ready with monitor := { ready.monitor with conversion := none } } : State).handles .monitorReport 5 [] ∧
      ready.handles .zoneReport 5 [] ∧ (exposing true).handles .slotReport 5 [] ∧
      (exposing true).frames.slots.get 0 = some (frame .exposing 1) ∧ (exposing true).frames.slots.get 5 = none ∧
      ready.handles .storeDirectory 5 [] :=
  ⟨⟨⟨⟨rfl, rfl⟩, rfl, short, .inl rfl⟩, rfl⟩, rfl, by decide, ready_handles _ _ _, rfl, ⟨⟨⟨rfl, rfl⟩, rfl, short, .inl rfl⟩, rfl⟩,
    ready_handles _ _ _, ⟨⟨⟨rfl, rfl⟩, rfl, short, .inl rfl⟩, rfl⟩, rfl, rfl, ready_handles _ _ _⟩

/-- O7: ids 0, 29, 1 and 28; a value below, in and above the range; the cross-check at its bound, both ways. -/
theorem test_witness_SetParamWritesTheTable :
    (∀ id b0 b1 b2 b3 : Byte, ready.handles .setParam 5 [id, b0, b1, b2, b3]) ∧
    (0 : Byte).toNat = 0 ∧ 28 < (29 : Byte).toNat ∧ (1 : Byte).toNat = Param.triggerSpacing.index.val + 1 ∧
    (28 : Byte).toNat = Param.noticeMask.index.val + 1 ∧
    Param.triggerSpacing.inRange (le4 0 0 0 0) = false ∧ Param.triggerSpacing.inRange (le4 1 0 0 0) = true ∧
    Param.triggerSpacing.inRange (le4 255 255 0 0) = true ∧ Param.triggerSpacing.inRange (le4 0 0 1 0) = false ∧
    74 + 6 ≤ ready.line.params.value .thermalTripLevel ∧ ¬ 75 + 6 ≤ ready.line.params.value .thermalTripLevel ∧
    ready.line.params.value .thermalDerateStart + 6 ≤ 76 ∧ ¬ ready.line.params.value .thermalDerateStart + 6 ≤ 75 :=
  ⟨fun _ _ _ _ _ => ready_handles _ _ _, by decide, by decide, by decide, by decide, by decide, by decide, by decide,
    by decide, by decide, by decide, by decide, by decide⟩

/-- O8 -/
theorem test_witness_ParametersAreReadInTheirRanges :
    (∀ id : Byte, ready.handles .getParam 5 [id]) ∧ (1 : Byte).toNat = Param.triggerSpacing.index.val + 1 ∧
      (28 : Byte).toNat = Param.noticeMask.index.val + 1 ∧ (0 : Byte).toNat = 0 ∧ 28 < (29 : Byte).toNat :=
  ⟨fun _ => ready_handles _ _ _, by decide, by decide, by decide, by decide⟩

/-- O9: masks at both sides of the twenty conditions. -/
theorem test_witness_ClearConditionsClearsAndReleases :
    (∀ b0 b1 b2 b3 : Byte, ready.handles .clearConditions 5 [b0, b1, b2, b3]) ∧ 2 ^ 20 ≤ le4 0 0 16 0 ∧
      le4 255 255 15 0 < 2 ^ 20 :=
  ⟨fun _ _ _ _ => ready_handles _ _ _, by decide, by decide⟩

/-- O10: a condition set, and one clear. -/
theorem test_witness_ConditionsAndNoticesAreQueued :
    let l : LineState := { ready.line with conditions := 1 }
    (∃ c : Condition, c.isIn l.conditions = true) ∧ ∃ c : Condition, c.isIn l.conditions = false :=
  ⟨⟨.linkCheck, by decide⟩, ⟨.thermalTrip, by decide⟩⟩

/-- O11: room for the reply, and none. -/
theorem test_witness_ResetRequestStopsTheDecoder :
    (queued 15 ready).handles .reset 5 [] ∧ (queued 15 ready).line.outbound.length < 16 ∧
      (queued 16 ready).handles .reset 5 [] ∧ ¬ (queued 16 ready).line.outbound.length < 16 :=
  ⟨⟨⟨⟨rfl, rfl⟩, rfl, short, .inl rfl⟩, rfl⟩, by decide, ⟨⟨⟨rfl, rfl⟩, rfl, short, .inl rfl⟩, rfl⟩, by decide⟩

/-- The inbound buffer holds `n` messages. -/
def buffered (n : Nat) : State :=
  { ready with line := { ready.line with inbound := List.replicate n { kind := 9, tag := 0, body := [] } } }

/-- O12: the longest body, and a buffer with a place and without. -/
theorem test_witness_GoodMessageReachesTheBuffer :
    (buffered 3).between ∧ (buffered 3).line.receiver = .hunting ∧ (List.replicate 298 (0 : Byte)).length ≤ 298 ∧
      (buffered 3).line.inbound.length < 4 ∧ (buffered 4).between ∧ (buffered 4).line.receiver = .hunting ∧
      ¬ (buffered 4).line.inbound.length < 4 :=
  ⟨⟨rfl, rfl⟩, rfl, Nat.le_of_eq List.length_replicate, by decide, ⟨rfl, rfl⟩, rfl, by decide⟩

/-- The receiver has gathered these bytes. -/
def gathering (bytes : List Byte) : State :=
  { ready with line := { ready.line with receiver := .receiving bytes } }

/-- O13: a first byte; lengths 1, 2, 300 and 301; a whole message whose check fails. -/
theorem test_witness_ReceiverHuntsGathersAndDiscards :
    (ready.between ∧ ready.line.receiver = .hunting ∧ (0xA4 : Byte) ≠ 0xA5) ∧
    (∀ bytes, (gathering bytes).between ∧ (gathering bytes).line.receiver = .receiving bytes) ∧
    ([] ++ [(2 : Byte)]).length < 2 ∧ (2 ≤ le2 2 0 ∧ le2 2 0 ≤ 300 ∧ ([2] ++ [(0 : Byte)]).length < 4 + le2 2 0) ∧
    (le2 44 1 = 300 ∧ ([44] ++ [(1 : Byte)]).length < 4 + le2 44 1) ∧
    (2 ≤ ([1] ++ [(0 : Byte)]).length ∧ le2 1 0 < 2) ∧ (2 ≤ ([45] ++ [(1 : Byte)]).length ∧ 300 < le2 45 1) ∧
    ([2, 0, 9, 5, 0] ++ [(0 : Byte)]).length = 4 + le2 2 0 ∧ (crc16 [2, 0, 9, 5]).toNat ≠ le2 0 0 :=
  ⟨⟨⟨rfl, rfl⟩, rfl, by decide⟩, fun _ => ⟨⟨rfl, rfl⟩, rfl⟩, by decide, by decide, by decide, by decide, by decide,
    by decide, by decide +kernel⟩

/-- O14: a frame whose tile is whole. -/
theorem test_witness_MessagesOnTheLineAreWellFormed :
    let f := { frame .sending 1 with tiles := [List.replicate 4096 { red := 0, green := 0, blue := 0 }] }
    (f.tiles.getD 0 []).length = 4096 :=
  List.length_replicate

/-- Slot 0 is SENDING, with messages in the outbound queue and the party that had the line last. -/
def contended (last : Party) : State :=
  let s := queued 2 (sending 2 none)
  { s with line := { s.line with lastParty := last } }

/-- O15: the tile sender not waiting, waiting after the queue and after itself; an empty queue; a busy line. -/
theorem test_witness_LineAlternatesBetweenQueueAndTiles :
    (let m : OutMessage := .reply 0x81 0 (.done .nothing);
      (queued 2 ready).between ∧ (queued 2 ready).line.onLine = none ∧ (queued 2 ready).line.outbound = m :: [m] ∧
      ¬ tileSenderWaits (queued 2 ready) ∧ (contended .tiles).line.outbound = m :: [m] ∧
      (contended .tiles).line.lastParty = .tiles ∧ tileSenderWaits (contended .queue) ∧
      (contended .queue).line.lastParty = .queue) ∧
    ((contended .queue).transfer = some { slot := 0, frame := 1, credits := 2, onLine := none } ∧
      (contended .queue).frames.slots.get 0 = some (frame .sending 1) ∧ (frame .sending 1).nextUnsent ≤ 191 ∧
      (sending 1 none).line.outbound = [] ∧ (contended .tiles).line.outbound ≠ []) ∧
    ((sending 1 (some 3)).between ∧ (sending 1 (some 3)).line.onLine ≠ none) :=
  ⟨⟨⟨rfl, rfl⟩, rfl, rfl, (fun ⟨_, _, h, _⟩ => nomatch h), rfl, rfl, ⟨_, _, rfl, rfl, by decide, rfl, by decide⟩, rfl⟩,
    ⟨rfl, rfl, by decide, rfl, by decide⟩, ⟨⟨rfl, rfl⟩, by decide⟩⟩

/-- The head of a queue of `n` messages is leaving the line; the decoder may hold a reply back. -/
def leaving (n : Nat) (held : Option OutMessage) : State :=
  let s := queued n ready
  { s with line := { s.line with
      onLine := some { party := .queue, bytes := [] }
      inHand := held.map fun m => { kind := 0x10, tag := 4, wait := .place m } } }

/-- O16: no reply waits; one waits, of RESET and of another; tile 190 and tile 191. -/
theorem test_witness_MessageEndFreesTheLine :
    (∀ held, (leaving 16 held).between ∧ (leaving 16 held).line.onLine = some { party := .queue, bytes := [] }) ∧
    (leaving 1 none).line.inHand = none ∧
    (∃ m rest, (leaving 16 none).line.outbound = m :: rest ∧ m.isResetReply = false ∧ rest.length = 15) ∧
    (∀ r, (leaving 16 (some r)).line.inHand = some { kind := 0x10, tag := 4, wait := .place r }) ∧
    (OutMessage.reply 0x86 4 (.done .nothing)).isResetReply = true ∧
    (∀ n, (sending 0 (some n)).between ∧ (sending 0 (some n)).line.inHand = none ∧
      (sending 0 (some n)).line.onLine = some { party := .tiles, bytes := [] } ∧
      (sending 0 (some n)).transfer = some { slot := 0, frame := 1, credits := 0, onLine := some n } ∧
      (sending 0 (some n)).frames.slots.get 0 = some { frame .sending 1 with nextUnsent := n }) ∧
    (190 ≠ 191 ∧ (191 : Nat) = 191) :=
  ⟨fun _ => ⟨⟨rfl, rfl⟩, rfl⟩, rfl, ⟨_, _, rfl, rfl, rfl⟩, fun _ => rfl, rfl,
    fun _ => ⟨⟨rfl, rfl⟩, rfl, rfl, rfl, rfl⟩, by decide, rfl⟩

/-- The RESET reply is leaving the line. -/
def resetLeaving : State :=
  { ready with line := { ready.line with
      onLine := some { party := .queue, bytes := [] }
      outbound := [.reply 0x86 4 (.done .nothing)]
      inHand := some { kind := 0x06, tag := 4, wait := .reset } } }

/-- O17 -/
theorem test_witness_ResetsLeaveTheResetState :
    resetLeaving.between ∧ resetLeaving.line.onLine = some { party := .queue, bytes := [] } ∧
      resetLeaving.line.outbound = .reply 0x86 4 (.done .nothing) :: [] :=
  ⟨⟨rfl, rfl⟩, rfl, rfl⟩

/-- O18 -/
theorem test_witness_IdleOrUnpoweredPartDoesNothing :
    ready.pending = [] ∧ ({ ready with powered := false } : State).powered = false ∧
      Instr.stallExpiry ≠ .powerOnReset ∧ Instr.stallExpiry ≠ .brownout :=
  ⟨rfl, rfl, by decide, by decide⟩

/-- A trigger is taken in a run with room. -/
theorem running_takes (m : RunMode) : (running m).takesTriggers := ⟨rfl, openRun m 0, rfl, .inl rfl⟩

/-- O19: the three modes, without and with a first trigger. -/
theorem test_witness_RunStartOpensARun :
    (∀ m c0 c1 f : Byte, ready.handles .runStart 5 [m, c0, c1, f]) ∧ ready.run.part = .ready ∧
      ready.ring.lockout = { thermal := false, supply := false, guard := false } ∧
      (∀ source, ∃ o t, Triggered source ready.travel.position (runOpened .host 0 ready) o t) ∧
      (∀ source, ∃ o t, Triggered source ready.travel.position (runOpened .interval 65535 ready) o t) :=
  ⟨fun _ _ _ _ => ready_handles _ _ _, rfl, rfl,
    fun _ => ⟨_, _, .served 0 _ ⟨rfl, _, rfl, .inl rfl⟩ (idlePath (by decide)) (.free 0 ⟨rfl, rfl, by decide⟩)⟩,
    fun _ => ⟨_, _, .served 0 _ ⟨rfl, _, rfl, .inr (by decide)⟩ (idlePath (by decide)) (.free 0 ⟨rfl, rfl, by decide⟩)⟩⟩

/-- O20: the sensor path idle, and past a strobe start. -/
theorem test_witness_RunStopAndParkEndTheRun :
    (∀ k, (running .host).handles k 5 []) ∧ (running .host).run.part = .running ∧
      (running .host).run.current = some (openRun .host 0) ∧
      (∀ (i : Fin 6) (f : Frame), (running .host).frames.slots.get i = some f → f.state ≠ .armed) ∧
      (running .host).pathIdle ∧
      (∀ k, (exposing true).handles k 5 []) ∧ (exposing true).run.current = some (openRun .host 0) ∧
      (∀ (i : Fin 6) (f : Frame), (exposing true).frames.slots.get i = some f → f.state ≠ .armed) ∧
      ¬ (exposing true).pathIdle :=
  ⟨fun _ => running_handles _ _ _ _, rfl, rfl, noneArmed (by decide), idlePath (by decide),
    fun _ => ⟨⟨⟨rfl, rfl⟩, rfl, short, .inl rfl⟩, rfl⟩, rfl, noneArmed (by decide), busyPath 0 _ rfl rfl⟩

/-- A SINGLE's slot is ARMED in a run, the silence timer runs, a trigger waits, and bank B is LOADED. -/
def armedSingle : State :=
  let s := filled 0 { frame .armed 1 with run := none } (running .host)
  { s with
    run := { s.run with silenceTimer := some 30, pendingTrigger := some { source := .host, position := 0 } }
    engine := { s.engine with
      bankB := { state := .loaded, profileId := some 0, references := 0, contents := some Profile.builtin } } }

/-- O21: the run's own capture, deferred, and a SINGLE's with a LOADED bank. -/
theorem test_witness_RunEndAbandonsTheArmedSlot :
    ((∀ k, deferred.handles k 5 []) ∧ deferred.run.part = .running ∧ deferred.run.current = some (openRun .host 0) ∧
      deferred.frames.slots.get 0 = some (frame .armed 1) ∧ (frame .armed 1).run = some (openRun .host 0).number ∧
      deferred.aloneOnPath 0) ∧
    ((∀ k, armedSingle.handles k 5 []) ∧ armedSingle.run.part = .running ∧
      armedSingle.run.current = some (openRun .host 0) ∧
      armedSingle.frames.slots.get 0 = some { frame .armed 1 with run := none } ∧ armedSingle.aloneOnPath 0 ∧
      armedSingle.between ∧ armedSingle.run.silenceTimer = some 30) :=
  ⟨⟨fun _ => ⟨⟨⟨rfl, rfl⟩, rfl, short, .inl rfl⟩, rfl⟩, rfl, rfl, rfl, rfl, othersOff (by decide)⟩,
    ⟨fun _ => ⟨⟨⟨rfl, rfl⟩, rfl, short, .inl rfl⟩, rfl⟩, rfl, rfl, rfl, othersOff (by decide), ⟨rfl, rfl⟩, rfl⟩⟩

/-- What the end of a run leaves: the part, the skipped count of the last record, and bank B. -/
def runEndSeen (t : State) : PartState × Option Word32 × BankState :=
  (t.run.part, t.run.last.map RunRecord.skipped, t.engine.bankB.state)

theorem test_runStop_armed : seen (exec (.runStop 3 []) deferred) runEndSeen = some (.ready, some 1, .empty) := by
  decide +kernel
/-- The waiting trigger is counted skipped, the SINGLE is not; the LOADED bank is swapped in. -/
theorem test_silence_armed_single : seen (exec .silenceExpiry armedSingle) runEndSeen =
    some (.parked, some 1, .current) := by decide +kernel

/-- A reason is in the lockout set. -/
def locked : State :=
  { ready with ring := { ready.ring with lockout := { thermal := false, supply := false, guard := true } } }

/-- O22: codes at both ends; another part state; a lockout. -/
theorem test_witness_RunRequestsAreRefusedInOrder :
    (∀ m c0 c1 f : Byte, ready.handles .runStart 5 [m, c0, c1, f]) ∧ ¬ 1 ≤ (0 : Byte).toNat ∧ ¬ (4 : Byte).toNat ≤ 3 ∧
      ¬ (2 : Byte).toNat ≤ 1 ∧ (inPart .parked).handles .runStart 5 [3, 0, 0, 1] ∧
      (inPart .parked).run.part ≠ .ready ∧ locked.handles .runStart 5 [1, 0, 0, 0] ∧
      locked.ring.lockout ≠ { thermal := false, supply := false, guard := false } ∧
      ready.handles .runStop 5 [] ∧ ready.run.part ≠ .running ∧ (inPart .stopping).handles .park 5 [] ∧
      (inPart .stopping).run.part ≠ .ready ∧ (inPart .stopping).run.part ≠ .running ∧
      (inPart .stopping).handles .sleep 5 [] ∧ (inPart .stopping).run.part ≠ .parked ∧ ready.handles .wake 5 [] :=
  ⟨fun _ _ _ _ => ready_handles _ _ _, by decide, by decide, by decide, ⟨⟨⟨rfl, rfl⟩, rfl, short, .inl rfl⟩, rfl⟩, by decide,
    ⟨⟨⟨rfl, rfl⟩, rfl, short, .inl rfl⟩, rfl⟩, by decide, ready_handles _ _ _, by decide,
    ⟨⟨⟨rfl, rfl⟩, rfl, short, .inl rfl⟩, rfl⟩, by decide, by decide, ⟨⟨⟨rfl, rfl⟩, rfl, short, .inl rfl⟩, rfl⟩, by decide,
    ready_handles _ _ _⟩

/-- O23: READY, PARKED and DORMANT; SLEEP with nothing at work, and each of the four that keep it. -/
theorem test_witness_ParkWakeAndSleepMoveThePart :
    (∀ k, ready.handles k 5 []) ∧ (∀ k, (inPart .parked).handles k 5 []) ∧ (inPart .dormant).takes 0x0C 5 [] ∧
      (inPart .dormant).frames.queue = [] ∧
      ((correcting 3).handles .sleep 5 [] ∧ (correcting 3).engine.hand ≠ none) ∧
      ((sending 0 none).handles .sleep 5 [] ∧ (sending 0 none).transfer ≠ none) ∧
      ((operating (.erase 3) .erasing).handles .sleep 5 [] ∧
        ∃ o, (operating (.erase 3) .erasing).store.operation = some o ∧ ∀ set, o.kind ≠ .protect set) ∧
      ((filled 0 (frame .reading 1) ready).handles .sleep 5 [] ∧ ¬ (filled 0 (frame .reading 1) ready).pathIdle) ∧
      ¬ (ready.engine.hand ≠ none ∨ ready.transfer ≠ none ∨ ¬ ready.pathIdle ∨
        ∃ o, ready.store.operation = some o ∧ ∀ set, o.kind ≠ .protect set) :=
  ⟨fun _ => ready_handles _ _ _, fun _ => ⟨⟨⟨rfl, rfl⟩, rfl, short, .inl rfl⟩, rfl⟩, ⟨⟨rfl, rfl⟩, rfl, short, .inl rfl⟩, rfl,
    ⟨⟨⟨⟨rfl, rfl⟩, rfl, short, .inl rfl⟩, rfl⟩, by decide⟩, ⟨⟨⟨⟨rfl, rfl⟩, rfl, short, .inl rfl⟩, rfl⟩, by decide⟩,
    ⟨⟨⟨⟨rfl, rfl⟩, rfl, short, .inl rfl⟩, rfl⟩, _, rfl, fun _ => by simp⟩,
    ⟨⟨⟨⟨rfl, rfl⟩, rfl, short, .inl rfl⟩, rfl⟩, busyPath 0 _ rfl rfl⟩,
    fun h => h.elim (fun h => h rfl) fun h => h.elim (fun h => h rfl) fun h =>
      h.elim (fun h => h (idlePath (by decide))) fun ⟨_, h, _⟩ => nomatch h⟩

/-- A run with one capture asked for. -/
def oneAsked : State :=
  let s := filled 0 (frame .exposing 1) (running .host)
  { s with run := { s.run with current := some (openRun .host 1) } }

/-- A capture is on the sensor path, and a trigger waits. -/
def triggerWaits : State :=
  let s := exposing true
  { s with run := { s.run with pendingTrigger := some { source := .host, position := 0 } } }

/-- All slots hold frames in this state. -/
def allHold (x : FrameState) (s : State) : State :=
  { s with frames := { s.frames with slots := Table.ofFn fun i => some (frame x (i.val + 1)) } }

/-- RECLAIM is the slot policy. -/
def reclaiming (s : State) : State :=
  { s with line := { s.line with params := s.line.params.put .slotPolicy 2 } }

theorem allHold_full (x : FrameState) (s : State) (j : Fin 6) : (allHold x s).frames.slots.get j ≠ none := by
  simp only [allHold, Table.get, Table.ofFn, List.getElem_ofFn]
  exact nofun

theorem readySlot {j : Fin 6} {g : Frame} (h : (reclaiming (allHold .ready (running .host))).frames.slots.get j = some g) :
    g = frame .ready (j.val + 1) := by
  simp only [reclaiming, allHold, Table.get, Table.ofFn, List.getElem_ofFn, Option.some.injEq] at h
  exact h.symm

theorem reclaimsOldest : (reclaiming (allHold .ready (running .host))).oldestDelivered 0 (frame .ready 1) :=
  ⟨rfl, by decide, allHold_full _ _,
    rfl, .inl rfl, fun j g hj hg _ => by
      rw [readySlot hg]
      have : j.val ≠ 0 := fun h => hj (Fin.ext h)
      show 1 < j.val + 1
      omega⟩

/-- O24: the five outcomes and a reclaim; a run of another mode; no run. -/
theorem test_witness_HostTriggerRepliesItsOutcome :
    ((∀ m, (running m).takes RequestKind.trigger.byte 5 []) ∧ (running .host).run.current = some (openRun .host 0) ∧
      (∀ c, (running .distance).run.current = some c → c.mode ≠ .host) ∧
      State.reset.takes RequestKind.trigger.byte 5 [] ∧ State.reset.run.part ≠ .running) ∧
    Triggered .host 0 (running .host) (.served 0 1) ((running .host).armed 0 (some 1) .host 0) ∧
    Triggered .host 0 oneAsked .ignored oneAsked ∧
    (∃ t, Triggered .host 0 (exposing true) .pending t) ∧
    (∃ t, Triggered .host 0 triggerWaits .overlap t) ∧
    (∃ t, Triggered .host 0 (allHold .sending (running .host)) .starved t) ∧
    (∃ t, Triggered .host 0 (reclaiming (allHold .ready (running .host))) (.served 0 1) t) :=
  ⟨⟨fun _ => ⟨⟨rfl, rfl⟩, rfl, short, .inl rfl⟩, rfl, fun c h => by cases h; decide, ⟨⟨rfl, rfl⟩, rfl, short, .inl rfl⟩, by decide⟩,
    .served 0 _ (running_takes .host) (idlePath (by decide)) (.free 0 ⟨rfl, rfl, by decide⟩),
    .ignored fun ⟨_, c, hc, h⟩ => by cases hc; exact absurd h (by decide),
    ⟨_, .pending ⟨rfl, _, rfl, .inl rfl⟩ (busyPath 0 _ rfl rfl) rfl⟩,
    ⟨_, .overlap ⟨rfl, _, rfl, .inl rfl⟩ (busyPath 0 _ rfl rfl) (by decide)⟩,
    ⟨_, .starved _ ⟨rfl, _, rfl, .inl rfl⟩ (idlePath (by decide)) (.starved (.inr ⟨allHold_full _ _, .inl (by decide)⟩))⟩,
    ⟨_, .served 0 _ ⟨rfl, _, rfl, .inl rfl⟩ (idlePath (by decide)) (.reclaimed 0 (frame .ready 1) reclaimsOldest)⟩⟩

/-- O25: each test of SINGLE failing, a FREE slot, a reclaim, and no slot. -/
theorem test_witness_SingleCapturesOutsideARun :
    (running .host).handles .single 5 [] ∧ (running .host).run.part ≠ .ready ∧
      locked.handles .single 5 [] ∧ locked.run.part = .ready ∧
      locked.ring.lockout ≠ { thermal := false, supply := false, guard := false } ∧
      (filled 0 (frame .armed 1) ready).handles .single 5 [] ∧ ¬ (filled 0 (frame .armed 1) ready).pathIdle ∧
      (ready.handles .single 5 [] ∧ ready.pathIdle ∧ ready.lowestFree 0) ∧
      ((reclaiming (allHold .ready ready)).handles .single 5 [] ∧ (reclaiming (allHold .ready ready)).pathIdle ∧
        (reclaiming (allHold .ready ready)).oldestDelivered 0 (frame .ready 1)) ∧
      ((allHold .sent ready).handles .single 5 [] ∧ (allHold .sent ready).pathIdle ∧ (allHold .sent ready).noSlot) :=
  ⟨running_handles _ _ _ _, by decide, ⟨⟨⟨rfl, rfl⟩, rfl, short, .inl rfl⟩, rfl⟩, rfl, by decide,
    ⟨⟨⟨rfl, rfl⟩, rfl, short, .inl rfl⟩, rfl⟩, busyPath 0 _ rfl rfl,
    ⟨ready_handles _ _ _, idlePath (by decide), rfl, rfl, by decide⟩,
    ⟨⟨⟨⟨rfl, rfl⟩, rfl, short, .inl rfl⟩, rfl⟩, idlePath (by decide), rfl, by decide, allHold_full _ _, rfl, .inl rfl, fun j g hj hg _ => by
      rw [readySlot (j := j) hg]
      have : j.val ≠ 0 := fun h => hj (Fin.ext h)
      show 1 < j.val + 1
      omega⟩,
    ⟨⟨⟨⟨rfl, rfl⟩, rfl, short, .inl rfl⟩, rfl⟩, idlePath (by decide), .inr ⟨allHold_full _ _, .inl (by decide)⟩⟩⟩

/-- The run controller's timers, running. -/
def timed (s : State) : State :=
  { s with run := { s.run with
      intervalTimer := some 500, silenceTimer := some 30, wakeTimer := some 200, wakeReason := some .request } }

/-- O26: the interval timer; the silence timer in a run, past a strobe start and outside one; the wake settle timer. -/
theorem test_witness_RunControllerTimersExpire :
    ((timed (running .interval)).between ∧ (timed (running .interval)).run.intervalTimer = some 500 ∧
      ∃ o t, Triggered .interval 0 (timed (running .interval)) o t) ∧
    ((timed ready).between ∧ (timed ready).run.silenceTimer = some 30 ∧ (timed ready).run.part ≠ .running) ∧
    ((timed (running .host)).between ∧ (timed (running .host)).run.current = some (openRun .host 0) ∧
      (timed (running .host)).run.part = .running ∧ (timed (running .host)).pathIdle) ∧
    ((timed (exposing true)).between ∧ (timed (exposing true)).run.current = some (openRun .host 0) ∧
      ¬ (timed (exposing true)).pathIdle ∧
      ∀ (i : Fin 6) (f : Frame), (timed (exposing true)).frames.slots.get i = some f → f.state ≠ .armed) ∧
    ((timed (inPart .waking)).between ∧ (timed (inPart .waking)).run.wakeTimer = some 200 ∧
      (timed (inPart .waking)).run.wakeReason = some .request) :=
  ⟨⟨⟨rfl, rfl⟩, rfl, _, _, .served 0 _ ⟨rfl, _, rfl, .inl rfl⟩ (idlePath (by decide)) (.free 0 ⟨rfl, rfl, by decide⟩)⟩,
    ⟨⟨rfl, rfl⟩, rfl, by decide⟩, ⟨⟨rfl, rfl⟩, rfl, rfl, idlePath (by decide)⟩,
    ⟨⟨rfl, rfl⟩, rfl, busyPath 0 _ rfl rfl, noneArmed (by decide)⟩, ⟨⟨rfl, rfl⟩, rfl, rfl⟩⟩

/-- O27 -/
theorem test_witness_SetPositionReplacesThePosition :
    ready.handles .setPosition 5 [0, 0, 0, 128] ∧ State.reset.takes RequestKind.setPosition.byte 5 [0, 0, 0, 0] ∧
      State.reset.run.part.handles = false :=
  ⟨ready_handles _ _ _, ⟨⟨rfl, rfl⟩, rfl, short, .inl rfl⟩, rfl⟩

/-- A DISTANCE run with this countdown. -/
def counting (c : Nat) : State :=
  let s := running .distance
  { s with travel := { s.travel with countdown := some c } }

/-- The part is DORMANT with this motion count. -/
def dozing (n : Nat) : State :=
  let s := inPart .dormant
  { s with travel := { s.travel with motion := some n } }

/-- O28: a forward and a reverse change; a countdown of 2 and of 1; the motion count at its bound; a change of both
phases and of none. -/
theorem test_witness_QuadratureChangesAreCounted :
    (ready.between ∧ isForward (ready.travel.refA, ready.travel.refB) (true, false) ∧
      isForward (false, true) (ready.travel.refA, ready.travel.refB)) ∧
    ((counting 2).between ∧ ∀ c, (counting 2).travel.countdown = some c → 1 < c) ∧
    ((counting 1).between ∧ (counting 1).travel.countdown = some 1 ∧ (counting 1).run.part ≠ .dormant ∧
      ∃ o t, Triggered .distance 1 (edgeTaken true true false 9 (counting 1)) o t) ∧
    ((dozing 48).between ∧ (∀ n, (dozing 48).travel.motion = some n →
      n + 1 < (dozing 48).line.params.value .wakeDistance)) ∧
    ((dozing 49).between ∧ (dozing 49).travel.motion = some 49 ∧ (dozing 49).run.part = .dormant ∧
      (dozing 49).travel.countdown = none ∧ (dozing 49).line.params.value .wakeDistance ≤ 49 + 1 ∧
      (dozing 49).frames.queue = []) ∧
    (true ≠ ready.travel.refA ∧ true ≠ ready.travel.refB ∧ false = ready.travel.refA ∧ false = ready.travel.refB) :=
  ⟨⟨⟨rfl, rfl⟩, .inl rfl, .inr (.inr (.inr rfl))⟩, ⟨⟨rfl, rfl⟩, fun c h => by cases h; decide⟩,
    ⟨⟨rfl, rfl⟩, rfl, by decide, _, _,
      .served 0 _ ⟨rfl, _, rfl, .inl rfl⟩ (idlePath (by decide)) (.free 0 ⟨rfl, rfl, by decide⟩)⟩,
    ⟨⟨rfl, rfl⟩, fun n h => by cases h; decide⟩, ⟨⟨rfl, rfl⟩, rfl, rfl, rfl, by decide, rfl⟩,
    by decide, by decide, rfl, rfl⟩

/-- A window with this count and this period. -/
def measured (n : Nat) (p : Option Nat) : State :=
  { ready with travel := { ready.travel with windowCount := n, period := p, stallTimer := some 1000 } }

/-- O29: counts of 4 and 3, a period known and absent. -/
theorem test_witness_SpeedIsMeasuredAndStalls :
    ((measured 4 none).between ∧ 4 ≤ (measured 4 none).travel.windowCount) ∧
    ((measured 3 (some 1)).between ∧ (measured 3 (some 1)).travel.windowCount < 4 ∧
      (measured 3 (some 1)).travel.period = some 1) ∧
    ((measured 3 none).between ∧ (measured 3 none).travel.period = none ∧
      (measured 3 none).travel.stallTimer = some 1000) :=
  ⟨⟨⟨rfl, rfl⟩, by decide⟩, ⟨⟨rfl, rfl⟩, by decide, rfl⟩, ⟨rfl, rfl⟩, rfl, rfl⟩

/-- O30: segments 0, 3 (FAULTED) and 11, a segment number above them, and the action codes 0 and 5. -/
theorem test_witness_SegmentSetActsOnTheRecord :
    (∀ n a v : Byte, faulty.handles .segmentSet 5 [n, a, v]) ∧ (0 : Byte).toNat = (0 : Fin 12).val ∧
      (11 : Byte).toNat = (11 : Fin 12).val ∧ (faulty.ring.segments.get 11).state ≠ .faulted ∧
      (3 : Byte).toNat = (3 : Fin 12).val ∧ (faulty.ring.segments.get 3).state = .faulted ∧
      12 ≤ (12 : Byte).toNat ∧ (0 : Byte).toNat = 0 ∧ 4 < (5 : Byte).toNat :=
  ⟨fun _ _ _ => ⟨⟨⟨rfl, rfl⟩, rfl, short, .inl rfl⟩, rfl⟩, by decide, by decide, by decide, by decide, rfl, by decide,
    by decide, by decide⟩

/-- The ARMED slot's request comes under lockout. -/
def armedLocked : State :=
  { armed with ring := { armed.ring with lockout := { thermal := true, supply := false, guard := false } } }

/-- O31: lockout, EXCL asserted, and neither; a request come too late; a deferral and none. -/
theorem test_witness_StrobeRequestIsDecidedInOrder :
    (armed.between ∧ armed.ring.request = some 0 ∧ armed.frames.slots.get 0 = some (frame .armed 1) ∧
      (∀ (j : Fin 6) (g : Frame), j ≠ 0 → armed.frames.slots.get j = some g → g.state.onSensorPath = false) ∧
      armed.ring.deferral = none ∧ armed.ring.lockout = { thermal := false, supply := false, guard := false } ∧
      armed.pins.excl = false) ∧
    (armedLocked.between ∧ armedLocked.ring.lockout ≠ { thermal := false, supply := false, guard := false }) ∧
    (let s : State := { armed with pins := { armed.pins with excl := true } }; s.between ∧ s.pins.excl = true) ∧
    (let s : State := { ready with ring := { ready.ring with request := some 0 } }
     s.between ∧ ∀ f, s.frames.slots.get 0 = some f → f.state ≠ .armed) ∧
    (deferred.between ∧ deferred.ring.deferral = some { target := .capture 0, timeout := 20 } ∧
      deferred.frames.slots.get 0 = some (frame .armed 1)) ∧ ready.ring.deferral = none :=
  ⟨⟨⟨rfl, rfl⟩, rfl, rfl, othersOff (by decide), rfl, rfl, rfl⟩,
    ⟨⟨rfl, rfl⟩, by decide⟩, ⟨⟨rfl, rfl⟩, rfl⟩, ⟨⟨rfl, rfl⟩, noneArmed (by decide) 0⟩, ⟨⟨rfl, rfl⟩, rfl, rfl⟩, rfl⟩

/-- O32: a strobe that starts at the request, and one that starts at the release of EXCL. -/
theorem test_witness_LevelsStayWithinCeilingsAndBudget :
    (armed.between ∧ armed.ring.strobe = none ∧
      ∃ t x, exec .strobeRequest armed = .next t ∧ t.ring.strobe = some x ∧ x.target = .capture 0) ∧
    (deferred.between ∧ deferred.ring.strobe = none ∧
      ∃ t x, exec .exclRelease deferred = .next t ∧ t.ring.strobe = some x ∧ x.target = .capture 0) :=
  ⟨⟨⟨rfl, rfl⟩, rfl, _, _, rfl, rfl, rfl⟩, ⟨rfl, rfl⟩, rfl, _, _, rfl, rfl, rfl⟩

/-- A trigger waits for the sensor path. -/
def waitingTrigger (s : State) : State :=
  { s with run := { s.run with pendingTrigger := some { source := .host, position := 7 } } }

/-- Bank B is LOADED. -/
def withLoaded (s : State) : State :=
  { s with engine := { s.engine with
      bankB := { state := .loaded, profileId := some 0, references := 0, contents := some Profile.builtin } } }

/-- The run is in STOPPING. -/
def stoppingRun (s : State) : State :=
  { s with run := { s.run with
      part := .stopping
      current := some { openRun .host 0 with endPosition := some 0, endReason := some .parked } } }

/-- O33: nothing follows; a run in STOPPING and a LOADED bank; a trigger waiting; and no deferral. -/
theorem test_witness_DeferralExpiryAbandonsTheSlot :
    (deferred.between ∧ deferred.ring.deferral = some { target := .capture 0, timeout := 20 } ∧
      deferred.frames.slots.get 0 = some (frame .armed 1) ∧ deferred.aloneOnPath 0 ∧
      ∀ s : State, s.run.pendingTrigger = none → PendingServed s s) ∧
    ((withLoaded (stoppingRun deferred)).between ∧
      (withLoaded (stoppingRun deferred)).ring.deferral = some { target := .capture 0, timeout := 20 } ∧
      (withLoaded (stoppingRun deferred)).run.pendingTrigger = none) ∧
    (let s := waitingTrigger deferred
     s.between ∧ s.run.pendingTrigger = some { source := .host, position := 7 } ∧
       ∃ t, PendingServed (State.abandoned 0 (frame .armed 1)
         { s with line := s.line.raise .exclusionTimeout }).pathSettled t) ∧
    (ready.between ∧ ready.ring.deferral = none) :=
  ⟨⟨⟨rfl, rfl⟩, rfl, rfl, othersOff (by decide), fun _ h => .absent h⟩, ⟨⟨rfl, rfl⟩, rfl, rfl⟩,
    ⟨⟨rfl, rfl⟩, rfl, _, .served _ _ _ rfl (.free 0 ⟨rfl, rfl, by decide⟩)⟩, ⟨⟨rfl, rfl⟩, rfl⟩⟩

/-- The expiry of a deferral frees the path: a run in STOPPING closes and the bank is swapped in; a waiting trigger is
served at once. -/
theorem test_deferral_frees_the_path :
    seen (exec .deferralTimerExpiry (withLoaded (stoppingRun deferred))) runEndSeen =
      some (.parked, some 1, .current) ∧
    seen (exec .deferralTimerExpiry (waitingTrigger deferred)) (fun t =>
      ((t.frames.slots.get 0).map fun f => (f.state, f.position), t.ring.request)) =
      some (some (.armed, 7), some 0) := by decide +kernel

/-- O34: before and after the mid-strobe point, of a capture and of a self-test pulse. -/
theorem test_witness_MidStrobeSamplesTheSegments :
    (∀ mid, (exposing mid).between ∧ (exposing mid).ring.strobe = some (strobeFor (.capture 0) mid) ∧
      (exposing mid).frames.slots.get 0 = some (frame .exposing 1)) ∧
    (lit (.selfTest 3) false ready).between ∧
    (lit (.selfTest 3) false ready).ring.strobe = some (strobeFor (.selfTest 3) false) ∧
    (strobeFor (.selfTest 3) false).midPassed = false ∧ (strobeFor (.capture 0) true).midPassed = true :=
  ⟨fun _ => ⟨⟨rfl, rfl⟩, rfl, rfl⟩, ⟨rfl, rfl⟩, rfl, rfl, rfl⟩

/-- A capture outside a run is lit. -/
def singleLit : State := lit (.capture 0) true (filled 0 { frame .exposing 1 with run := none } ready)

/-- The self-test is at segment `i`, with its pulse lit or deferred. -/
def testing (i : Fin 12) (deferral : Option Deferral) : State :=
  let s := lit (.selfTest i) true (inPart .startup)
  { s with
    run := { s.run with selfTest := some i }
    ring := { s.ring with deferral := deferral } }

/-- What the guard's expiry makes of the ring and the conditions, before the entry of GUARD. -/
def guardCut (s : State) : State :=
  State.darkened { s with
    line := s.line.raise .strobeOverrun
    ring := { s.ring with lockout := { s.ring.lockout with guard := true } } }

/-- O35: a capture in a run and outside one, a pulse of the self-test, and no strobe. -/
theorem test_witness_StrobeEndAndGuardHandTheSlotOver :
    ((exposing true).between ∧ (exposing true).ring.strobe = some (strobeFor (.capture 0) true) ∧
      (exposing true).frames.slots.get 0 = some (frame .exposing 1) ∧ (exposing true).ring.guard = some 2500 ∧
      (exposing true).ring.lockout.guard = false ∧
      AfterEntry .guard .strobeOverrun (guardCut (exposing true))
        ((guardCut (exposing true)).stopping .strobeOverrun (openRun .host 0))) ∧
    (singleLit.between ∧ singleLit.ring.guard = some 2500 ∧
      AfterEntry .guard .strobeOverrun (guardCut singleLit) (guardCut singleLit)) ∧
    ((testing 3 none).between ∧ (testing 3 none).ring.strobe = some (strobeFor (.selfTest 3) true) ∧
      (testing 3 none).ring.guard = some 2500 ∧ ∃ t, AfterEntry .guard .strobeOverrun (guardCut (testing 3 none)) t) ∧
    (ready.between ∧ ready.ring.strobe = none) :=
  ⟨⟨⟨rfl, rfl⟩, rfl, rfl, rfl, rfl,
      .stops _ rfl rfl rfl rfl nofun (busyPath 0 (frame .exposing 1) rfl rfl) (noneArmed (s := exposing true) (by decide))⟩,
    ⟨⟨rfl, rfl⟩, rfl, .nothing (by decide) rfl rfl nofun⟩,
    ⟨⟨rfl, rfl⟩, rfl, rfl, _, .endsTest (by decide) nofun nofun rfl⟩, ⟨rfl, rfl⟩, rfl⟩

/-- The guard cuts a pulse, and the self-test ends. -/
theorem test_guard_cuts_pulse :
    seen (exec .strobeGuardExpiry (testing 3 none)) (fun t =>
      (t.run.part, t.run.selfTest, t.ring.lit, t.ring.lockout.guard, t.line.outbound.length)) =
      some (.ready, none, false, true, 2) := by decide +kernel

/-- O36: the scan going on and ended; the pulses of segments 0 and 11; a deferred pulse; EXCL and lockout. -/
theorem test_witness_ScanAndSelfTestLeadToReady :
    (State.reset.between ∧ State.reset.store.scanning = true ∧
      (∀ i, (State.reset.store.areas.get i).mem.wf = true) ∧ ready.between ∧ ready.store.scanning = false) ∧
    (∀ i, (testing i none).between ∧ (testing i none).ring.strobe = some (strobeFor (.selfTest i) true) ∧
      (testing i none).run.selfTest ≠ none) ∧
    ((testing 0 none).ring.segments.get 1).state = .enabled ∧ (∀ i : Fin 12, ¬ (11 : Fin 12).val + 1 ≤ i.val) ∧
    (let d : Deferral := { target := .selfTest 3, timeout := 20 }
     (testing 3 (some d)).between ∧ (testing 3 (some d)).ring.deferral = some d ∧
       (testing 3 (some d)).run.selfTest = some 3) ∧
    (let s : State := { testing 3 none with pins := { ready.pins with excl := true } }
     s.between ∧ s.pins.excl = true) ∧
    (let s : State := { testing 3 none with ring := { (testing 3 none).ring with lockout := locked.ring.lockout } }
     s.between ∧ s.ring.lockout ≠ { thermal := false, supply := false, guard := false }) :=
  ⟨⟨⟨rfl, rfl⟩, rfl, by decide, ⟨rfl, rfl⟩, rfl⟩, fun _ => ⟨⟨rfl, rfl⟩, rfl, nofun⟩, rfl,
    by decide, ⟨⟨rfl, rfl⟩, rfl, rfl⟩, ⟨⟨rfl, rfl⟩, rfl⟩, ⟨⟨rfl, rfl⟩, by decide⟩⟩

/-- Every ring thermistor has been read at `v`. -/
def warmed (v : Int) (s : State) : State :=
  { s with monitor := { s.monitor with rest := ⟨[some 200, some v, some v, some v, some 20, some 2500], rfl⟩ } }

/-- A SINGLE's capture is deferred. -/
def singleDeferred : State :=
  let s := filled 0 { frame .armed 1 with run := none } ready
  { s with ring := { s.ring with deferral := some { target := .capture 0, timeout := 20 } } }

/-- The pulse of segment 3 is deferred. -/
def pulseDeferred : State :=
  let s := inPart .startup
  { s with
    run := { s.run with selfTest := some 3 }
    ring := { s.ring with deferral := some { target := .selfTest 3, timeout := 20 } } }

/-- O37: every channel; SUPPLY at and below 17.0 V, first and second; a group at and below the trip level, cooled and
not; and what an entry brings to the part at rest, to a run idle, lit, READING, ARMED and deferred, to a SINGLE lit and
deferred, and to the self-test with a pulse lit and deferred. -/
theorem test_witness_RestReadingsGoThroughTheirTests :
    (∀ c, (converting c .scan ready).between ∧ (converting c .scan ready).monitor.conversion =
      some { channel := c, kind := .scan, resolution := 12 }) ∧
    (0 < 2 ^ 12 ∧ 4095 < 2 ^ 12 ∧ (-40 : Int) ≤ -40 ∧ (150 : Int) ≤ 150) ∧
    (2176 * 320 / 2 ^ 12 = 170 ∧ 2175 * 320 / 2 ^ 12 = 169 ∧ ready.line.params.value .supplyLowLevel = 2) ∧
    (ready.monitor.lowStreak = 0 ∧ ready.ring.lockout.supply = false ∧ ready.ring.lockout.thermal = false ∧
      ready.line.conditions.getLsbD 9 = false) ∧
    ((warmed 69 ready).monitor.cooled 80 ∧ ¬ (warmed 70 ready).monitor.cooled 80 ∧
      ready.line.params.value .thermalTripLevel = 80) ∧
    (∀ r w, AfterEntry r w ready ready ∧ AfterEntry r w (running .host) ((running .host).closed w .ready (openRun .host 0)) ∧
      AfterEntry r w (reading .waiting) ((reading .waiting).stopping w (openRun .host 0)) ∧
      (∃ t, AfterEntry r w deferred t) ∧ (∃ t, AfterEntry r w armedSingle t) ∧ (∃ t, AfterEntry r w singleDeferred t) ∧
      (∃ t, AfterEntry r w pulseDeferred t)) ∧
    (∀ w, AfterEntry .supply w (exposing true) ((exposing true).stopping w (openRun .host 0)) ∧
      AfterEntry .supply w (testing 3 none) (testing 3 none) ∧ (∃ t, AfterEntry .thermal w (exposing true) t) ∧
      (∃ t, AfterEntry .thermal w singleLit t) ∧ ∃ t, AfterEntry .thermal w (testing 3 none) t) :=
  ⟨fun _ => ⟨⟨rfl, rfl⟩, rfl⟩, by decide, ⟨by decide, by decide, rfl⟩, ⟨rfl, rfl, rfl, rfl⟩,
    ⟨fun c h => ⟨69, by rcases h with h | h | h <;> subst h <;> rfl, by decide⟩,
      fun h => by obtain ⟨v, hv, hl⟩ := h 1 (.inl rfl); cases hv; exact absurd hl (by decide), rfl⟩,
    fun _ _ => ⟨.nothing (by decide) rfl rfl fun _ => rfl, .closes _ rfl rfl rfl rfl (fun _ => rfl) (idlePath (by decide)),
      .stops _ rfl rfl rfl rfl (fun _ => rfl) (busyPath 0 (frame .reading 1) rfl rfl) (noneArmed (by decide)),
      ⟨_, .frees _ 0 _ rfl rfl (fun _ h => by cases h; rfl) rfl (fun _ => rfl) rfl rfl (othersOff (by decide))⟩,
      ⟨_, .frees _ 0 _ rfl rfl nofun rfl (fun _ => rfl) rfl rfl (othersOff (by decide))⟩,
      ⟨_, .abandons _ 0 _ (by decide) rfl rfl rfl (fun _ => rfl) rfl rfl (othersOff (by decide))⟩,
      ⟨_, .endsTest (by decide) (fun _ h => by cases h; exact ⟨_, rfl⟩) nofun rfl⟩⟩,
    fun _ => ⟨.stops _ rfl rfl rfl rfl nofun (busyPath 0 (frame .exposing 1) rfl rfl) (noneArmed (by decide)),
      .leavesPulse _ 3 (by decide) rfl nofun rfl rfl rfl,
      ⟨_, .cutsAndStops _ _ 0 _ rfl rfl rfl rfl rfl rfl rfl rfl (noneArmed (by decide))⟩,
      ⟨_, .cuts _ 0 _ (by decide) rfl rfl rfl rfl rfl rfl⟩, ⟨_, .cutsPulse _ 3 (by decide) rfl nofun rfl rfl rfl⟩⟩⟩

/-- A trip ends a deferral and its run, a SINGLE's deferral, and the self-test with its deferred or lit pulse. -/
theorem test_trip_ends_what_waits :
    ([deferred, singleDeferred, pulseDeferred, testing 3 none].map fun s =>
      seen (exec (.scanConversionEnd 0 90) (converting .ringT0 .scan s)) fun t =>
        (t.run.part, t.ring.deferral.isNone, t.ring.lit, t.frames.slots.any Option.isSome)) =
      [some (.ready, true, false, false), some (.ready, true, false, false), some (.ready, true, false, false),
        some (.ready, true, false, false)] := by decide +kernel
/-- Low supply leaves a lit pulse on. -/
theorem test_supply_leaves_pulse :
    (let s := converting .supply .scan (testing 3 none)
     seen (exec (.scanConversionEnd 0 0) { s with monitor := { s.monitor with lowStreak := 1 } }) fun t =>
       (t.run.part, t.ring.lit, t.ring.lockout.supply)) = some (.startup, true, true) := by decide +kernel

/-- O38: a reading below 16.0 V and one at it, and the fifteenth and the sixteenth without droop. -/
theorem test_witness_StrobeReadingsMoveTheSupplyStep :
    (let s := converting .supply (.strobe 0 1) (exposing true)
     s.between ∧ s.monitor.conversion = some { channel := .supply, kind := .strobe 0 1, resolution := 12 } ∧
       s.frames.slots.get 0 = some (frame .exposing 1) ∧ (frame .exposing 1).number = 1 ∧
       2047 * 320 / 2 ^ 12 < 150 + 10 * s.line.params.value .droopLevel ∧
       150 + 10 * s.line.params.value .droopLevel ≤ 2048 * 320 / 2 ^ 12) ∧ 2048 < 2 ^ 12 ∧
    14 + 1 < 16 ∧ ¬ 15 + 1 < 16 :=
  ⟨⟨⟨rfl, rfl⟩, rfl, rfl, rfl, by decide, by decide⟩, by decide, by decide, by decide⟩

/-- The balance loop is held. -/
def heldLoop : State := { ready with balance := { ready.balance with state := .held } }

/-- O39: HELD and not; no frame lit, one EXPOSING and one READING. -/
theorem test_witness_BalanceRequestsSetTheState :
    (∀ k, ready.handles k 5 []) ∧ ready.balance.state ≠ .held ∧ heldLoop.handles .balanceRelease 5 [] ∧
      heldLoop.balance.state = .held ∧ (ready.engine.bank .a).state = .current ∧
      (ready.engine.bank BankId.a.other).state ≠ .current ∧
      (ready.engine.bank .a).contents = some Profile.builtin ∧
      (∀ (i : Fin 6) (f : Frame), ready.frames.slots.get i = some f → f.state ≠ .exposing ∧ f.state ≠ .reading) ∧
      (exposing true).handles .balanceRestart 5 [] ∧
      (exposing true).frames.slots.get 0 = some (frame .exposing 1) ∧
      (reading .waiting).handles .balanceRestart 5 [] ∧
      (reading .waiting).frames.slots.get 0 = some (frame .reading 1) ∧
      (∀ (j : Fin 6) (g : Frame), j ≠ 0 → (exposing true).frames.slots.get j = some g →
        g.state.onSensorPath = false) :=
  ⟨fun _ => ready_handles _ _ _, by decide, ⟨⟨⟨rfl, rfl⟩, rfl, short, .inl rfl⟩, rfl⟩, rfl, rfl, by decide, rfl,
    fun i f h => by
      have := eachFrame (s := ready) (p := fun _ _ => false) (by decide) i f h
      exact absurd this (by decide),
    ⟨⟨⟨rfl, rfl⟩, rfl, short, .inl rfl⟩, rfl⟩, rfl, ⟨⟨⟨rfl, rfl⟩, rfl, short, .inl rfl⟩, rfl⟩, rfl, othersOff (by decide)⟩

/-- O40: no slot READING; the port waiting; lines 1,023 and 1,024, whole and flagged. -/
theorem test_witness_SensorPortFollowsTheReadout :
    (ready.between ∧ ∀ (i : Fin 6) (f : Frame), ready.frames.slots.get i = some f → f.state ≠ .reading) ∧
    (∀ p, (reading p).between ∧ (reading p).frames.slots.get 0 = some (frame .reading 1) ∧
      (∀ (j : Fin 6) (g : Frame), j ≠ 0 → (reading p).frames.slots.get j = some g → g.state.onSensorPath = false) ∧
      (reading p).frames.port = p ∧ (reading p).frames.readoutLimit = some 250 ∧
      ((reading p).engine.bank .a).contents = some Profile.builtin ∧ (frame .reading 1).stats.isSome) ∧
    (∃ t, PendingServed (State.freed 0 (frame .reading 1) (waitingTrigger (reading .waiting))).pathSettled t) ∧
    (1023 ≠ 1024 ∧ 1023 < 1024 ∧ 1024 ≤ 1024) :=
  ⟨⟨⟨rfl, rfl⟩, noneReading (by decide)⟩,
    fun _ => ⟨⟨rfl, rfl⟩, rfl, othersOff (s := reading .waiting) (by decide), rfl, rfl, rfl, rfl⟩,
    ⟨_, .served _ _ _ rfl (.free 0 ⟨rfl, rfl, by decide⟩)⟩, by decide⟩

/-- A sensor frame error closes a run in STOPPING and lets the LOADED bank in; in RUNNING the waiting trigger is
served. -/
theorem test_sensor_error_frees_the_path :
    seen (exec .readoutLimitExpiry (withLoaded (stoppingRun (reading .waiting)))) runEndSeen =
      some (.parked, some 1, .current) ∧
    seen (exec .sensorFrameEnd (waitingTrigger (reading .waiting))) (fun t =>
      ((t.frames.slots.get 0).map fun f => (f.state, f.position), t.ring.request)) =
      some (some (.armed, 7), some 0) := by decide +kernel

/-- The frame being read is stale. -/
def staleRead : State :=
  let s := reading (.receiving 1024 false)
  { s with balance := { s.balance with stale := some 1 } }

/-- The strobe of the frame being read was cut. -/
def cutRead : State :=
  filled 0 { frame .reading 1 with flags := { FrameFlags.atAllocation 0 with cut := true } }
    (reading (.receiving 1024 false))

/-- The run of the frame being read asked for this many frames. -/
def askedFor (n : Nat) : State :=
  let s := reading (.receiving 1024 false)
  { s with run := { s.run with current := some (openRun .host n) } }

/-- O41: the three cases: cut, stale or held, and analysed; the engine idle and at work; a run that has its last frame,
one in STOPPING with a LOADED bank, and a waiting trigger. -/
theorem test_witness_CorrectReadoutIsAnalysedAndTaken :
    (let s := reading (.receiving 1024 false)
     s.between ∧ s.frames.slots.get 0 = some (frame .reading 1) ∧ s.aloneOnPath 0 ∧
       (s.engine.hand = none → s.frames.queue = [] ∧ s.run.part ≠ .dormant) ∧
       (s.engine.bank .a).contents = some Profile.builtin ∧ (frame .reading 1).strobe.isSome ∧
       (frame .reading 1).flags.cut = false ∧ s.balance.stale ≠ some (frame .reading 1).number ∧
       s.balance.state ≠ .held) ∧
    (staleRead.between ∧ staleRead.balance.stale = some (frame .reading 1).number) ∧
    (cutRead.between ∧ ∃ f, cutRead.frames.slots.get 0 = some f ∧ f.flags.cut = true) ∧
    (let s := reading (.receiving 1024 false)
     let busy : State := { s with engine := { s.engine with hand := some (3, 0) } }
     busy.between ∧ (busy.engine.hand = none → busy.frames.queue = [] ∧ busy.run.part ≠ .dormant)) ∧
    (askedFor 1).run.part = .running ∧ ((askedFor 1).captureCounted (frame .reading 1)).run.part = .ready ∧
    ((askedFor 2).captureCounted (frame .reading 1)).run.part = .running ∧
    (∃ t, PendingServed ((withLoaded (stoppingRun (askedFor 1))).captureCounted (frame .reading 1)).pathSettled t) ∧
    (∃ t, PendingServed
      (filled 0 (frame .correcting 1) ((waitingTrigger (askedFor 0)).captureCounted (frame .reading 1))).pathSettled t) :=
  ⟨⟨⟨rfl, rfl⟩, rfl, othersOff (by decide), fun _ => ⟨rfl, by decide⟩, rfl, rfl, rfl, by decide, by decide⟩,
    ⟨⟨rfl, rfl⟩, rfl⟩, ⟨⟨rfl, rfl⟩, _, rfl, rfl⟩, ⟨⟨rfl, rfl⟩, nofun⟩, rfl, by decide, by decide,
    ⟨_, .absent rfl⟩, ⟨_, .served _ _ _ rfl (.free 1 ⟨rfl, rfl, by decide⟩)⟩⟩

/-- O42: a zone unlit, void, at and below GLARE_FRACTION and VOID_LEVEL; a segment observed and not; ratios at the
clamps; every standing of the judgment. -/
theorem test_witness_AnalysisFollowsTheFormulas :
    (12 ≤ 100 * 12 / 100 ∧ ¬ 12 ≤ 100 * 11 / 100 ∧ 3900 / 100 < 40 ∧ ¬ 4000 / 100 < 40) ∧
    ({ numerator := 0, denominator := 0, zones := 0 } : Ratio).observed = false ∧
    ({ numerator := 125, denominator := 100, zones := 1 } : Ratio).observed = true ∧
    (¬ (100 + 25) * 100 < 100 * 125 ∧ (100 + 25) * 100 < 100 * 126 ∧ ¬ (100 + 25) * 80 < 100 * 100 ∧
      (100 + 25) * 79 < 100 * 100) ∧
    (∀ x : BalanceState, x = .cold ∨ x = .settling ∨ x = .settled ∨ x = .saturated → x ≠ .held) ∧
    (1 + 1 < 3 ∧ 3 ≤ 2 + 1) ∧
    ((ready.engine.bank .a).contents = some Profile.builtin ∧ (ready.engine.bank .a).profileId = some 0 ∧
      (frame .reading 1).bank = .a ∧ (frame .reading 1).stats.isSome) ∧
    ((ready.ring.segments.get 0).state = .enabled ∧ (faulty.ring.segments.get 3).state ≠ .enabled) ∧
    (100 * 100 ≤ 100 * 97 + 3 * 100 ∧ ¬ 100 * 100 ≤ 100 * 96 + 3 * 100 ∧ 100 * 103 ≤ (100 + 3) * 100 ∧
      (100 + 3) * 100 < 100 * 104) :=
  ⟨by decide, by decide, by decide, by decide, fun x h => by rcases h with h | h | h | h <;> subst h <;> decide,
    by decide, ⟨rfl, rfl, rfl, rfl⟩, ⟨rfl, by decide⟩, by decide⟩

/-- O43: slots 0, 5 and 6; a FREE slot, another frame number, and every state of a slot. -/
theorem test_witness_ReleaseFrameActsByTheSlotState :
    (∀ x (n b0 b1 b2 b3 : Byte), (filled 0 (frame x 1) ready).handles .releaseFrame 5 [n, b0, b1, b2, b3] ∧
      (filled 0 (frame x 1) ready).frames.slots.get 0 = some (frame x 1)) ∧
    (∀ x, (frame x 1).number = le4 1 0 0 0 ∧ (frame x 1).number ≠ le4 2 0 0 0 ∧ (frame x 1).state = x) ∧
    ready.frames.slots.get 5 = none ∧ (5 : Byte).toNat = (5 : Fin 6).val ∧ (0 : Byte).toNat = (0 : Fin 6).val ∧
    6 ≤ (6 : Byte).toNat ∧
    State.reset.takes RequestKind.releaseFrame.byte 5 [0, 1, 0, 0, 0] ∧ State.reset.run.part.handles = false :=
  ⟨fun _ _ _ _ _ _ => ⟨⟨⟨⟨rfl, rfl⟩, rfl, short, .inl rfl⟩, rfl⟩, rfl⟩, fun _ => ⟨rfl, (show 1 ≠ le4 2 0 0 0 by decide), rfl⟩, rfl,
    by decide, by decide, by decide, ⟨⟨rfl, rfl⟩, rfl, short, .inl rfl⟩, rfl⟩

/-- The engine has slot 0 in hand and slot 1 waits. -/
def queuedBehind (n : Nat) (abandon : Bool) : State :=
  let s := filled 1 (frame .waiting 2) (correcting n)
  filled 0 { frame .correcting 1 with abandon := abandon } { s with frames := { s.frames with queue := [1] } }

/-- O44: tiles 190 and 191, abandoned and not, with an empty queue and with one that waits. -/
theorem test_witness_TileCompletionGoesOnOrEndsTheFrame :
    (∀ n, (correcting n).between ∧ (correcting n).engine.hand = some (0, n) ∧
      (correcting n).frames.slots.get 0 = some (frame .correcting 1) ∧
      ((correcting n).engine.bank .a).contents = some Profile.builtin ∧ (correcting n).frames.queue = []) ∧
    (∀ n a, (queuedBehind n a).between ∧ (queuedBehind n a).engine.hand = some (0, n) ∧
      (queuedBehind n a).frames.slots.get 0 = some { frame .correcting 1 with abandon := a } ∧
      (queuedBehind n a).frames.queue = 1 :: [] ∧ (1 : Fin 6) ≠ 0 ∧
      (queuedBehind n a).frames.slots.get 1 = some (frame .waiting 2) ∧ (queuedBehind n a).run.part ≠ .dormant) ∧
    (190 ≠ 191 ∧ (frame .correcting 1).abandon = false) :=
  ⟨fun _ => ⟨⟨rfl, rfl⟩, rfl, rfl, rfl, rfl⟩, fun _ _ => ⟨⟨rfl, rfl⟩, rfl, rfl, rfl, by decide, rfl, nofun⟩,
    by decide, rfl⟩

/-- O45: the first and the last tile and pixel; under profile 0 every point lies inside. -/
theorem test_witness_TilePixelsFollowMeshColourAndGain :
    0 < 192 ∧ 191 < 192 ∧ 0 < 64 ∧ 63 < 64 := by decide

/-- Slot 0 READY and slot 1 SENDING. -/
def otherSending : State :=
  let s := filled 1 (frame .sending 2) (filled 0 (frame .ready 1) ready)
  { s with transfer := some { slot := 1, frame := 2, credits := 0, onLine := none } }

/-- O46: operands at both ends; each test failing; a first grant and a further one, with a tile on the line and not. -/
theorem test_witness_TransferGrantStartsOrAddsCredits :
    (∀ x (n b0 b1 b2 b3 a c : Byte), (filled 0 (frame x 1) ready).handles .transferGrant 5 [n, b0, b1, b2, b3, a, c] ∧
      (filled 0 (frame x 1) ready).frames.slots.get 0 = some (frame x 1)) ∧
    (¬ (6 : Byte).toNat < 6 ∧ ¬ ((192 : Byte).toNat ≤ 191 ∨ (192 : Byte).toNat = 255) ∧ ¬ 1 ≤ (0 : Byte).toNat ∧
      ¬ (33 : Byte).toNat ≤ 32) ∧
    ((5 : Byte).toNat < 6 ∧ (191 : Byte).toNat ≤ 191 ∧ (255 : Byte).toNat = 255 ∧ 1 ≤ (1 : Byte).toNat ∧
      (32 : Byte).toNat ≤ 32 ∧ (frame .ready 1).number = le4 1 0 0 0 ∧ (frame .ready 1).number ≠ le4 2 0 0 0) ∧
    (otherSending.handles .transferGrant 5 [0, 1, 0, 0, 0, 0, 1] ∧
      ∃ (j : Fin 6) (g : Frame), j ≠ 0 ∧ otherSending.frames.slots.get j = some g ∧ g.state = .sending) ∧
    (∀ (c : Nat) (t : Option Nat), (sending c t).handles .transferGrant 5 [0, 1, 0, 0, 0, 255, 1] ∧
      (sending c t).transfer = some { slot := 0, frame := 1, credits := c, onLine := t } ∧
      (sending c t).frames.slots.get 0 = some { frame .sending 1 with nextUnsent := t.getD 0 }) ∧
    (State.reset.takes RequestKind.transferGrant.byte 5 [0, 1, 0, 0, 0, 0, 1] ∧ State.reset.run.part.handles = false) :=
  ⟨fun _ _ _ _ _ _ _ _ => ⟨⟨⟨⟨rfl, rfl⟩, rfl, short, .inl rfl⟩, rfl⟩, rfl⟩, by decide,
    ⟨by decide, by decide, by decide, by decide, by decide, by decide, by decide⟩,
    ⟨⟨⟨⟨rfl, rfl⟩, rfl, short, .inl rfl⟩, rfl⟩, 1, _, by decide, rfl, rfl⟩,
    fun _ _ => ⟨⟨⟨⟨rfl, rfl⟩, rfl, short, .inl rfl⟩, rfl⟩, rfl, rfl⟩, ⟨⟨rfl, rfl⟩, rfl, short, .inl rfl⟩, rfl⟩

/-- A stop waits for the tile on the line. -/
def stopping (tile : Nat) (release : Bool) : State :=
  let s := sending 0 (some tile)
  { s with line := { s.line with inHand := some { kind := 0x19, tag := 5, wait := .stop 0 release } } }

/-- O47: a stop with a tile on the line and without, and its effect at tiles 0 and 191. -/
theorem test_witness_TransferStopTakesEffectAtATileBoundary :
    (∀ (t : Option Nat) (n b0 b1 b2 b3 a : Byte), (sending 0 t).handles .transferStop 5 [n, b0, b1, b2, b3, a] ∧
      (sending 0 t).transfer = some { slot := 0, frame := 1, credits := 0, onLine := t } ∧
      (sending 0 t).frames.slots.get 0 = some { frame .sending 1 with nextUnsent := t.getD 0 }) ∧
    ((filled 0 (frame .held 1) ready).handles .transferStop 5 [0, 1, 0, 0, 0, 1] ∧ (frame .held 1).state ≠ .sending ∧
      (frame .held 1).number = le4 1 0 0 0 ∧ (frame .held 1).number ≠ le4 0 0 0 0 ∧ 6 ≤ (6 : Byte).toNat ∧
      (0 : Byte).toNat = 0 ∧ 2 < (3 : Byte).toNat) ∧
    (∀ (n : Nat) (r : Bool), (stopping n r).between ∧
      (stopping n r).line.onLine = some { party := .tiles, bytes := [] } ∧
      (stopping n r).transfer = some { slot := 0, frame := 1, credits := 0, onLine := some n } ∧
      (stopping n r).frames.slots.get 0 = some { frame .sending 1 with nextUnsent := n } ∧
      (stopping n r).line.outbound.length < 16 ∧
      (stopping n r).line.inHand = some { kind := 0x19, tag := 5, wait := .stop 0 r }) :=
  ⟨fun _ _ _ _ _ _ _ => ⟨⟨⟨⟨rfl, rfl⟩, rfl, short, .inl rfl⟩, rfl⟩, rfl, rfl⟩,
    ⟨⟨⟨⟨rfl, rfl⟩, rfl, short, .inl rfl⟩, rfl⟩, by decide, by decide, by decide, by decide, rfl, by decide⟩,
    fun _ _ => ⟨⟨rfl, rfl⟩, rfl, rfl, rfl, by simp [stopping, sending, filled, ready, State.reset, LineState.atReset],
      rfl⟩⟩

/-- A header for lens 7 and these bores. -/
def header (low high : Nat) : RecordHeader where
  lens := 7
  boreMin := low
  boreMax := high
  label := []

/-- Areas 1 and 2 are VALID for lens 7, area 1 in the wider band; area 16 is BUSY and area 15 INVALID. -/
def stocked : State := { ready with
  store := { ready.store with directory :=
    ((((ready.store.directory.set 0 (.valid (header 100 300))).set 1 (.valid (header 100 200))).set 15 .busy).set 14
      .invalid) } }

/-- The spare bank is RETIRING. -/
def noSpare : State := { stocked with
  engine := { stocked.engine with bankB := { Bank.none with state := .retiring, profileId := some 3, references := 1 } } }

/-- O48: ids 0 (profile 0 has none here), 1, 15, 16 and 17; a bore at the band's end and beyond it; a spare bank and
none; the narrower of two bands. -/
theorem test_witness_LoadProfileChoosesAProfileAndABank :
    (∀ a b x y : Byte, stocked.handles .loadProfile 5 [a, b, x, y]) ∧
    ((0 : Byte).toNat = 0 ∧ 2 < (3 : Byte).toNat ∧ 16 < (17 : Byte).toNat ∧ (16 : Byte).toNat = (15 : Fin 16).val + 1) ∧
    (stocked.store.directory.get 15 = .busy ∧ stocked.store.directory.get 14 = .invalid ∧
      stocked.store.directory.get 13 = .empty ∧ stocked.store.directory.get 0 = .valid (header 100 300)) ∧
    stocked.spareBank .b ∧
    (noSpare.handles .loadProfile 5 [1, 1, 0, 0] ∧ (noSpare.engine.bank .a).state = .current ∧
      (noSpare.engine.bank BankId.a.other).state ≠ .current ∧ (noSpare.engine.bank BankId.a.other).state ≠ .empty) ∧
    (stocked.store.suits 7 (le2 200 0) 1 (header 100 200) ∧ stocked.store.suits 7 (le2 200 0) 0 (header 100 300) ∧
      (header 100 200).boreMax - (header 100 200).boreMin < (header 100 300).boreMax - (header 100 300).boreMin) ∧
    (∀ i h, ¬ stocked.store.suits 8 (le2 200 0) i h) :=
  ⟨fun _ _ _ _ => ⟨⟨⟨rfl, rfl⟩, rfl, short, .inl rfl⟩, rfl⟩, by decide, ⟨rfl, rfl, rfl, rfl⟩, ⟨rfl, rfl⟩,
    ⟨⟨⟨⟨rfl, rfl⟩, rfl, short, .inl rfl⟩, rfl⟩, rfl, by decide, by decide⟩,
    ⟨⟨rfl, rfl, by decide, by decide⟩, ⟨rfl, rfl, by decide, by decide⟩, by decide⟩,
    fun i h ⟨hi, hl, _⟩ => by
      have all : ∀ j : Fin 16, (match stocked.store.directory.get j with
          | .valid k => decide (k.lens = 7)
          | .empty | .invalid | .busy => true) = true := by decide
      have := all i
      rw [hi] at this
      simp only [decide_eq_true_eq] at this
      omega⟩

/-- A load of profile 1 into bank B is being served. -/
def loading (s : State) : State := { s with
  engine := { s.engine with bankB := { state := .loading, profileId := some 1, references := 0, contents := none } }
  store := { s.store with load := some { profileId := 1, bank := .b, tag := 5 }, serving := some .load } }

/-- O49: a load of profile 0 and of profile 1, with the sensor path idle and busy; an erased area's record fails. -/
theorem test_witness_LoadEndsFillOrEmptyTheBank :
    (ready.handles .loadProfile 5 [1, 0, 0, 0] ∧ ready.spareBank .b ∧ ready.pathIdle ∧
      (exposing true).handles .loadProfile 5 [1, 0, 0, 0] ∧ (exposing true).spareBank .b ∧
      ¬ (exposing true).pathIdle) ∧
    (ready.between ∧ ready.store.serving ≠ some .load) ∧
    (∀ s, s.between → (loading s).between ∧ (loading s).store.serving = some .load ∧
      (loading s).store.load = some { profileId := (0 : Fin 16).val + 1, bank := .b, tag := 5 } ∧
      ((loading s).engine.bank .b).state = .loading) ∧
    ((loading ready).engine.bank BankId.b.other).state = .current ∧
    recordPasses (Memory.erased.readRun 0 1609) ((0 : Fin 16).val + 1) = false :=
  ⟨⟨ready_handles _ _ _, ⟨rfl, rfl⟩, idlePath (by decide), ⟨⟨⟨rfl, rfl⟩, rfl, short, .inl rfl⟩, rfl⟩, ⟨rfl, rfl⟩,
      busyPath 0 _ rfl rfl⟩,
    ⟨⟨rfl, rfl⟩, by decide⟩, fun _ h => ⟨h, rfl, rfl, rfl⟩, rfl, by decide +kernel⟩

/-- O50: lengths 0, 1, 256 and 257, the last offset, a commit in progress, lockdown and WPROT. -/
theorem test_witness_StagingAndPermit :
    (∀ body : List Byte, body.length ≤ 298 →
      ready.handles .storeStage 5 body ∧ (operating (.commit 3) .erasing).handles .storeStage 5 body) ∧
    (¬ 1 ≤ le2 0 0 ∧ 1 ≤ le2 1 0 ∧ le2 0 1 ≤ 256 ∧ ¬ le2 1 1 ≤ 256 ∧ le2 255 15 + le2 1 0 ≤ 4096 ∧
      ¬ le2 255 15 + le2 2 0 ≤ 4096) ∧
    ([] : List Byte).length = le2 0 0 ∧ [(9 : Byte)].length = le2 1 0 ∧ [(9 : Byte), 9].length = le2 2 0 ∧
    (∃ o i, (operating (.commit 3) .erasing).store.operation = some o ∧ o.kind = .commit i) ∧
    (¬ ∃ o i, ready.store.operation = some o ∧ o.kind = .commit i) ∧ ready.store.staging.wf = true ∧
    (ready.handles .storePermit 5 [] ∧ ready.store.lockdown = false ∧ ready.pins.wprot = false) ∧
    (let s : State := { ready with store := { ready.store with lockdown := true } }
     s.handles .storePermit 5 [] ∧ s.store.lockdown = true) ∧
    (let s : State := { ready with pins := { ready.pins with wprot := true } }
     s.handles .storePermit 5 [] ∧ s.pins.wprot = true) ∧ ready.handles .storeRevoke 5 [] :=
  ⟨fun _ h => ⟨⟨⟨⟨rfl, rfl⟩, rfl, h, .inl rfl⟩, rfl⟩, ⟨⟨⟨rfl, rfl⟩, rfl, h, .inl rfl⟩, rfl⟩⟩, by decide, by decide,
    by decide, by decide, ⟨_, _, rfl, rfl⟩, (fun ⟨_, _, h, _⟩ => nomatch h), rfl, ⟨ready_handles _ _ _, rfl, rfl⟩,
    ⟨⟨⟨⟨rfl, rfl⟩, rfl, short, .inl rfl⟩, rfl⟩, rfl⟩, ⟨⟨⟨⟨rfl, rfl⟩, rfl, short, .inl rfl⟩, rfl⟩, rfl⟩, ready_handles _ _ _⟩

/-- An erase of ALL at area 4, begun or not. -/
def eraseAllAt (begun : Bool) : State :=
  { ready with store := { ready.store with
      operation := some
        { kind := .eraseAll 3, phase := .erasing, begun := begun, suspension := .none, count := 0, tag := 9 } } }

/-- O51: no operation, one verifying, every kind erasing; an erase of ALL begun and not. -/
theorem test_witness_LockdownAndWprotAbandonTheOperation :
    (ready.handles .storeLockdown 5 [] ∧ ∀ o, ready.store.operation = some o → o.phase = .verifying) ∧
    ((operating (.commit 3) .verifying).handles .storeLockdown 5 [] ∧
      ∀ o, (operating (.commit 3) .verifying).store.operation = some o → o.phase = .verifying) ∧
    (∀ k, (operating k .erasing).handles .storeLockdown 5 [] ∧ (operating k .erasing).between ∧
      ∃ o, (operating k .erasing).store.operation = some o ∧ o.phase ≠ .verifying ∧ o.kind = k) ∧
    (∀ b, (eraseAllAt b).handles .storeLockdown 5 [] ∧ (eraseAllAt b).between ∧
      ∃ o, (eraseAllAt b).store.operation = some o ∧ o.phase ≠ .verifying ∧ o.begun = b) ∧
    ((OperationKind.eraseAll 3).stillToDo 3 ∧ (OperationKind.eraseAll 3).stillToDo 15 ∧
      ¬ (OperationKind.eraseAll 3).stillToDo 2 ∧ ¬ (OperationKind.eraseAll 3).inWork 4) :=
  ⟨⟨ready_handles _ _ _, nofun⟩, ⟨⟨⟨⟨rfl, rfl⟩, rfl, short, .inl rfl⟩, rfl⟩, fun o h => by cases h; rfl⟩,
    fun _ => ⟨⟨⟨⟨rfl, rfl⟩, rfl, short, .inl rfl⟩, rfl⟩, ⟨rfl, rfl⟩, _, rfl, nofun, rfl⟩,
    fun _ => ⟨⟨⟨⟨rfl, rfl⟩, rfl, short, .inl rfl⟩, rfl⟩, ⟨rfl, rfl⟩, _, rfl, nofun, rfl⟩,
    show (3 : Fin 16) ≤ 3 by decide, show (3 : Fin 16) ≤ 15 by decide, show ¬ (3 : Fin 16) ≤ 2 by decide,
    show ¬ (4 : Fin 16) = 3 by decide⟩

/-- An erase of ALL that is abandoned leaves area 4 INVALID and judges the later ones as they stand; one that has not
begun disturbs none. -/
theorem test_abandoned_eraseAll :
    ([true, false].map fun b => seen (exec .wprotAsserted (eraseAllAt b)) fun t =>
      [t.store.directory.get 2, t.store.directory.get 3, t.store.directory.get 15]) =
      [some [.empty, .invalid, .empty], some [.empty, .empty, .empty]] := by decide +kernel

/-- The permit latch is set. -/
def permitted (s : State) : State := { s with store := { s.store with permit := true } }

/-- O52: areas 0, 1, 16, 17 and ALL; each test failing, and none. -/
theorem test_witness_WriteRequestsAreTestedInOrder :
    (∀ n : Byte, ready.handles .storeCommit 5 [n]) ∧ (∀ n : Byte, ready.handles .storeErase 5 [n]) ∧
    (∀ n m : Byte, (permitted ready).handles .storeProtect 5 [n, m]) ∧
    ((0 : Byte).toNat = 0 ∧ 16 < (17 : Byte).toNat ∧ (17 : Byte).toNat ≠ 255 ∧ (255 : Byte).toNat = 255 ∧
      (1 : Byte).toNat = (0 : Fin 16).val + 1 ∧ (16 : Byte).toNat = (15 : Fin 16).val + 1) ∧
    (ready.writeTests false false = some .noPermit ∧ (permitted ready).writeTests true false = some .prot ∧
      (permitted { ready with pins := { ready.pins with wprot := true } }).writeTests false false = some .locked ∧
      (permitted (operating (.erase 3) .erasing)).writeTests false false = some .busy ∧
      (permitted ready).writeTests false true = some .busy ∧ (permitted ready).writeTests false false = none) ∧
    recordPasses ((permitted ready).store.staging.readRun 0 1609) 1 = false :=
  ⟨fun _ => ready_handles _ _ _, fun _ => ready_handles _ _ _, fun _ _ => ⟨⟨⟨rfl, rfl⟩, rfl, short, .inl rfl⟩, rfl⟩,
    by decide, ⟨rfl, rfl, rfl, rfl, rfl, rfl⟩, by decide +kernel⟩

/-- O53: every kind in each of its phases; areas before the last and the last. -/
theorem test_witness_PhasesOfTheOperation :
    (∀ k p, (operating k p).between ∧ ∃ o, (operating k p).store.operation = some o ∧ o.kind = k ∧ o.phase = p ∧
      o.begun = true ∧ o.suspension ≠ .suspended) ∧ (14 : Fin 16).val + 1 < 16 :=
  ⟨fun _ _ => ⟨⟨rfl, rfl⟩, _, rfl, rfl, rfl, rfl, nofun⟩, by decide⟩

/-- A STORE_READ is being served. -/
def servingRead (n : Nat) : State :=
  { ready with
    line := { ready.line with inHand := some { kind := 0x22, tag := 5, wait := .read 3 0 n } }
    store := { ready.store with serving := some .storeRead } }

/-- An erase that has been asked to suspend. -/
def asked : State :=
  { ready with store := { ready.store with
      waiting := [.storeRead]
      operation := some
        { kind := .erase 3, phase := .erasing, begun := true, suspension := .asked, count := 7, tag := 9 } } }

/-- O54: areas, lengths and offsets at their ends; a BUSY area; a read served; a suspension asked for and not. -/
theorem test_witness_ReadsClaimTheArray :
    (∀ n o0 o1 n0 n1 : Byte, stocked.handles .storeRead 5 [n, o0, o1, n0, n1]) ∧
    ((0 : Byte).toNat = 0 ∧ 16 < (17 : Byte).toNat ∧ (16 : Byte).toNat = (15 : Fin 16).val + 1 ∧
      stocked.store.directory.get 15 = .busy ∧ stocked.store.directory.get 0 ≠ .busy ∧ ¬ 1 ≤ le2 0 0 ∧
      le2 0 1 ≤ 256 ∧ ¬ le2 1 1 ≤ 256 ∧ le2 0 15 + le2 0 1 ≤ 4096 ∧ ¬ le2 1 15 + le2 0 1 ≤ 4096) ∧
    (∀ n, (servingRead n).between ∧ (servingRead n).store.serving = some .storeRead ∧
      (servingRead n).line.inHand = some { kind := 0x22, tag := 5, wait := .read 3 0 n } ∧
      ((servingRead n).store.areas.get 3).disturbed = none) ∧
    (servingRead 0).line.outbound.length < 16 ∧
    (asked.between ∧ (∃ o, asked.store.operation = some o ∧ o.suspension = .asked) ∧ asked.store.serving = none) ∧
    (∃ o, (operating (.erase 3) .erasing).store.operation = some o ∧ o.suspension ≠ .asked) :=
  ⟨fun _ _ _ _ _ => ⟨⟨⟨rfl, rfl⟩, rfl, short, .inl rfl⟩, rfl⟩,
    ⟨by decide, by decide, by decide, rfl, by decide, by decide, by decide, by decide, by decide, by decide⟩,
    fun _ => ⟨⟨rfl, rfl⟩, rfl, rfl, rfl⟩, by decide, ⟨⟨rfl, rfl⟩, ⟨_, rfl, rfl⟩, rfl⟩, ⟨_, rfl, nofun⟩⟩

/-- A message of the queue leaves the line while a condition is set. -/
def flagged : State :=
  let s := leaving 2 none
  { s with line := { s.line with conditions := 0x00001#20 } }

/-- O55 -/
theorem test_witness_ConditionsStaySet :
    (∃ t, exec .messageSent flagged = .next t) ∧ Condition.isIn .linkCheck flagged.line.conditions = true ∧
      (∀ (tag : Byte) (body : List Byte), Instr.messageSent ≠ .clearConditions tag body) ∧
      Instr.messageSent ≠ .powerOnReset ∧ Instr.messageSent ≠ .brownout ∧ Instr.messageSent ≠ .resetInput ∧
      (∀ m, flagged.line.outbound.head? = some m → m.isResetReply = false) :=
  ⟨⟨_, rfl⟩, by decide, nofun, by decide, by decide, by decide, fun m h => by cases h; rfl⟩

/-- O56 to O59: the part with a command waiting meets each invariant, and steps. -/
theorem test_witness_invariants :
    (let s : State := { State.reset with pending := [.storeScanComplete] }
     (∃ t, step s = .next t) ∧ s.linesWithin ∧ s.memoriesCanonical ∧ s.lightMatches ∧ s.banksOrdered ∧
       s.line.params.value .thermalDerateStart + 6 ≤ s.line.params.value .thermalTripLevel ∧
       (∀ p : Param, p.inRange (s.line.params.value p) = true)) ∧
    (let s : State := { operating (.erase 3) .erasing with pending := [.wprotAsserted] }
     (∃ t, step s = .next t) ∧ s.writesAllowed) :=
  ⟨⟨⟨_, rfl⟩, ⟨by decide, by decide, by decide, rfl⟩, ⟨rfl, by decide⟩, ⟨rfl, rfl, rfl, rfl⟩,
      ⟨by decide, ⟨by decide, by decide⟩, ⟨by decide, by decide⟩, nofun⟩, by decide,
      fun p => by cases p <;> decide⟩,
    ⟨⟨_, rfl⟩, nofun, nofun, fun o h _ => by cases h; exact ⟨rfl, rfl, rfl⟩⟩⟩

/-! ### A well-formed record, for the clauses that need one -/

/-- A record for area 1 up to its check, well formed. -/
def recordBody : List Byte :=
  [1, 1, 7, 100, 0, 200, 0] ++ List.replicate 16 65 ++ bytesOf 2 640 ++ bytesOf 2 512 ++ bytesOf 2 128 ++
    bytesOf 2 256 ++ bytesOf 2 384 ++ bytesOf 2 512 ++ bytesOf 2 359 ++ List.replicate 588 255 ++
    (List.replicate 48 [(0 : Byte), 1]).flatten ++ List.replicate 884 255

/-- The record with its check. -/
def goodRecord : List Byte :=
  recordBody ++ bytesOf 4 (crc32 recordBody).toNat

theorem recordBody_length : recordBody.length = 1605 := by decide +kernel

theorem natOf_bytesOf : ∀ (n v : Nat), v < 256 ^ n → natOf (bytesOf n v) = v
  | 0, v, h => by simp at h; subst h; rfl
  | n + 1, v, h => by
    have ih := natOf_bytesOf n (v / 256) (by rw [Nat.pow_succ] at h; omega)
    show (BitVec.ofNat 8 v).toNat + 256 * natOf (bytesOf n (v / 256)) = v
    rw [ih, BitVec.toNat_ofNat]
    omega

theorem goodRecord_length : goodRecord.length = 1609 := by
  rw [goodRecord, List.length_append, recordBody_length]
  rfl

theorem goodRecord_checks : recordCheckPasses goodRecord = true := by
  have ht : goodRecord.take 1605 = recordBody := List.take_left' recordBody_length
  have hn : numberAt goodRecord 1605 4 = (crc32 recordBody).toNat := by
    rw [numberAt, fieldAt, goodRecord, List.drop_left' recordBody_length, List.take_of_length_le (Nat.le_refl 4)]
    exact natOf_bytesOf 4 _ (crc32 recordBody).isLt
  rw [recordCheckPasses, ht, hn]
  exact decide_eq_true rfl

theorem goodRecord_passes : recordPasses goodRecord 1 = true := by
  rw [recordPasses, goodRecord_checks, Bool.and_true]
  decide +kernel

/-- A memory that holds the record. -/
@[irreducible] def goodMemory : Memory := Memory.erased.writeRun 0 goodRecord

theorem goodMemory_reads : goodMemory.readRun 0 1609 = goodRecord := by
  unfold goodMemory
  exact goodRecord_length ▸ Memory.readRun_writeRun 0 goodRecord Memory.erased_wf

theorem goodMemory_passes : recordPasses (goodMemory.readRun 0 1609) 1 = true := by
  rw [goodMemory_reads]
  exact goodRecord_passes

/-- Area 1 and the staging buffer hold the record. -/
def recorded (s : State) : State :=
  { s with store := { s.store with
      staging := goodMemory
      areas := s.store.areas.set 0 { mem := goodMemory, disturbed := none } } }

/-- O49: a load whose record passes. -/
theorem test_witness_LoadEndsFillOrEmptyTheBank_good :
    let s := loading (recorded ready)
    recordPasses (((s.store.areas.get 0).mem.overlay []).readRun 0 1609) ((0 : Fin 16).val + 1) = true :=
  goodMemory_passes

/-- O52: a commit of a staged record that passes. -/
theorem test_witness_WriteRequestsAreTestedInOrder_good :
    let s := permitted (recorded ready)
    s.handles .storeCommit 5 [1] ∧ s.writeTests (s.store.protectSet.getLsbD 0) false = none ∧
      recordPasses (s.store.staging.readRun 0 1609) ((0 : Fin 16).val + 1) = true :=
  ⟨⟨⟨⟨rfl, rfl⟩, rfl, short, .inl rfl⟩, rfl⟩, rfl, goodMemory_passes⟩

/-- O53: a commit verified good. -/
theorem test_witness_PhasesOfTheOperation_good :
    let s := recorded (operating (.commit 0) .verifying)
    (s.store.areas.get 0).mem.readRun 0 1609 = s.store.staging.readRun 0 1609 ∧
      recordPasses ((s.store.areas.get 0).mem.readRun 0 1609) ((0 : Fin 16).val + 1) = true :=
  ⟨rfl, goodMemory_passes⟩

/-- O45: a mesh whose first point lies left of the raw frame, and profile 0, whose first point lies in it. -/
theorem test_witness_TilePixels_outside :
    (let p : Profile := { Profile.builtin with mesh := Table.fill 13 (Table.fill 17 { x := -1, y := 0 }) }
     ((p.mesh.get 0).get 0).x = -1 ∧ ¬ 0 ≤ Int.fdiv (64 * 64 * -1) 4096) ∧
    ((Profile.builtin.mesh.get 0).get 0).x = 2048 :=
  ⟨⟨rfl, by decide⟩, by decide⟩

end Sys2Proof.Tests
end

/-! PROOFS. A request taken and answered in one event, what a trigger becomes (R8), and TRIGGER (R12). -/

namespace Sys2Proof.Machine

/-! ## One event of a powered part -/

theorem Event.run_powered {s : State} (h : s.powered = true) (f : State → State) :
    Event.run s f = .next (f s).ended := by
  rw [Event.run, if_pos h]
  rfl

/-- R164: an event that queued no notice ends as it is. -/
theorem State.ended_of_no_notice {s : State} (h : s.line.staged = []) : s.ended = s := by
  obtain ⟨pending, powered, pins, line⟩ := s
  obtain ⟨receiver, inbound, inHand, outbound, onLine, lastParty, conditions, params, staged⟩ := line
  subst h
  rfl

/-! ## A request taken (R163, R1) -/

theorem State.canTake_of_takes {kind tag : Byte} {body : List Byte} {s : State} (h : s.takes kind tag body) :
    s.line.canTake kind tag body = true := by
  obtain ⟨_, free, short, oldest⟩ := h
  have arrives : bodyArrives body = true := decide_eq_true short
  rw [LineState.canTake, free, arrives]
  cases hi : s.line.inbound with
  | nil => rfl
  | cons m rest =>
    have hm : m = { kind := kind, tag := tag, body := body } := by simpa [hi] using oldest
    simp [hm]

/-- A request that its part state answers, with a body of the right length, goes to its own rule. -/
theorem State.request_answered {kind : RequestKind} {tag : Byte} {body : List Byte} {s : State}
    (h : s.takes kind.byte tag body) (answered : kind.answeredIn s.run.part = true)
    (fits : kind.bodyFits body = true) (rule : State → State) :
    s.request kind tag body true rule = rule (s.updLine (LineState.take kind.byte tag)) := by
  simp [State.request, State.canTake_of_takes h, answered, fits]

/-- R1: a request that its part state does not answer is refused WRONG_STATE. -/
theorem State.request_screened {kind : RequestKind} {tag : Byte} {body : List Byte} {s : State}
    (h : s.takes kind.byte tag body) (screened : kind.answeredIn s.run.part = false) (rule : State → State) :
    s.request kind tag body true rule = (s.updLine (LineState.take kind.byte tag)).refuse .wrongState := by
  simp [State.request, State.canTake_of_takes h, screened]

/-! ## The request in hand answered (R164, R175) -/

theorem RequestKind.replyByte_ne_reset {kind : RequestKind} : kind ≠ .reset → kind.byte + 0x80 ≠ 0x86 := by
  cases kind <;> decide

/-- Only a RESET's reply stops the decoder for good (R170). -/
theorem RequestKind.reply_not_resetReply {kind : RequestKind} (h : kind ≠ .reset) (tag : Byte) (body : ReplyBody) :
    (OutMessage.reply (kind.byte + 0x80) tag body).isResetReply = false := by
  cases body with
  | done r => simpa [OutMessage.isResetReply] using RequestKind.replyByte_ne_reset h
  | taken r => rfl
  | refused r => rfl
  | unknownKind k => rfl

/-- R164: a message taken and its reply placed, or left to wait, in one event. -/
theorem LineState.place_take {m : OutMessage} (h : m.isResetReply = false) (kind tag : Byte) (l : LineState) :
    (l.take kind tag).place { kind := kind, tag := tag, wait := .handling } m = l.withMessage kind tag m := by
  simp only [LineState.place, LineState.withMessage, LineState.take, h]
  rfl

theorem State.done_taken {kind : RequestKind} (h : kind ≠ .reset) (tag : Byte) (r : Result) (s : State) :
    (s.updLine (LineState.take kind.byte tag)).done r = s.withDone kind tag r :=
  congrArg (fun l => { s with line := l })
    (LineState.place_take (RequestKind.reply_not_resetReply h tag (.done r)) kind.byte tag s.line)

theorem State.refuse_taken {kind : RequestKind} (h : kind ≠ .reset) (tag : Byte) (r : Reason) (s : State) :
    (s.updLine (LineState.take kind.byte tag)).refuse r = s.withRefusal kind tag r :=
  congrArg (fun l => { s with line := l })
    (LineState.place_take (RequestKind.reply_not_resetReply h tag (.refused r)) kind.byte tag s.line)

theorem LineState.withMessage_staged (kind tag : Byte) (m : OutMessage) (l : LineState) :
    (l.withMessage kind tag m).staged = l.staged := by
  unfold LineState.withMessage
  split <;> rfl

theorem State.withRefusal_ended {s : State} (h : s.between) (kind : RequestKind) (tag : Byte) (r : Reason) :
    (s.withRefusal kind tag r).ended = s.withRefusal kind tag r := by
  refine State.ended_of_no_notice ?_
  rw [← h.2]
  exact LineState.withMessage_staged _ _ _ s.line

/-! ## What becomes of a trigger (R8) -/

/-- R8: a count of the slots on the sensor path that carry the run's number. -/
theorem State.length_filter_eq_inFlight (s : State) (number : Nat) (p : Option Frame → Bool)
    (free : p none = false) (filled : ∀ f, p (some f) = (f.state.onSensorPath && decide (f.run = some number))) :
    (s.frames.slots.items.filter p).length = s.inFlight number := by
  rw [State.inFlight, List.countP_eq_length_filter]
  congr 2
  funext o
  cases o with
  | none => exact free
  | some f => exact filled f

theorem State.triggerFits_iff (s : State) : s.triggerFits = true ↔ s.takesTriggers := by
  unfold State.triggerFits State.takesTriggers
  cases s.run.current with
  | none => simp
  | some c =>
    dsimp only
    rw [State.length_filter_eq_inFlight s c.number]
    · simp
    · rfl
    · intro f
      rfl

/-- R6: a trigger of the open run that gets no capture is counted skipped. -/
theorem State.countSkipped_openRun (s : State) : s.updRun (RunState.countSkipped s.openRun) = s.skipsOne := by
  have skips : (s.run.current.map fun c =>
      if s.openRun = some c.number then { c with skipped := c.skipped + 1 } else c) =
      s.run.current.map fun c => { c with skipped := c.skipped + 1 } :=
    Option.map_congr fun c opened => if_pos (by rw [State.openRun, Option.mem_def.mp opened, Option.map_some])
  rw [State.updRun, RunState.countSkipped, skips]
  rfl

/-- R8: `takeTrigger` does what `Triggered` says. -/
theorem State.takeTrigger_eq {source : Source} {position : Word32} {s t : State} {o : TriggerOutcome}
    (h : Triggered source position s o t) :
    s.takeTrigger { source := source, position := position } = (o, t) := by
  unfold State.takeTrigger
  cases h with
  | ignored declines => rw [if_neg (by rwa [State.triggerFits_iff])]
  | pending takes busy empty =>
    rw [if_pos (s.triggerFits_iff.mpr takes), if_pos (s.pathBusy_iff.mpr busy), empty]
    rfl
  | overlap takes busy held =>
    rw [if_pos (s.triggerFits_iff.mpr takes), if_pos (s.pathBusy_iff.mpr busy),
      if_pos (Option.isSome_iff_ne_none.mpr held), State.countSkipped_openRun]
    rfl
  | served i t takes idle got =>
    rw [if_pos (s.triggerFits_iff.mpr takes), if_neg (by simp [s.pathBusy_false_iff.mpr idle]), State.serve_eq got]
  | starved t takes idle got =>
    rw [if_pos (s.triggerFits_iff.mpr takes), if_neg (by simp [s.pathBusy_false_iff.mpr idle]), State.serve_eq got]

/-! ## A trigger and the message in hand

The decoder takes the TRIGGER message before the trigger is handled, while the statement's trigger comes to the part as
it stood: what becomes of a trigger does not depend on the message in hand. -/

theorem LineState.raise_take (c : Condition) (kind tag : Byte) (l : LineState) :
    (l.take kind tag).raise c = (l.raise c).take kind tag := by
  unfold LineState.raise LineState.take
  dsimp only
  split <;> rfl

theorem State.withdrawn_take (i : Fin 6) (f : Frame) (kind tag : Byte) (s : State) :
    (s.updLine (LineState.take kind tag)).withdrawn i f = (s.withdrawn i f).updLine (LineState.take kind tag) :=
  congrArg (fun l => { s with line := l }) (LineState.raise_take .frameReclaimed kind tag
    { s.line with staged := s.line.staged ++ [.frameWithdrawn i f.number f.state f.run] })

theorem Served.updLine_take {source : Source} {position : Word32} {s t : State} {o : Option (Fin 6)}
    (h : Served source position s o t) (kind tag : Byte) :
    Served source position (s.updLine (LineState.take kind tag)) o (t.updLine (LineState.take kind tag)) := by
  cases h with
  | free i slot => exact .free i slot
  | reclaimed i f slot =>
    have served := Served.reclaimed (source := source) (position := position)
      (s := s.updLine (LineState.take kind tag)) i f slot
    rw [State.withdrawn_take] at served
    exact served
  | starved full =>
    have served := Served.starved (source := source) (position := position)
      (s := s.updLine (LineState.take kind tag)) full
    rw [State.updLine_line, LineState.raise_take] at served
    exact served

theorem Triggered.updLine_take {source : Source} {position : Word32} {s t : State} {o : TriggerOutcome}
    (h : Triggered source position s o t) (kind tag : Byte) :
    Triggered source position (s.updLine (LineState.take kind tag)) o (t.updLine (LineState.take kind tag)) := by
  cases h with
  | ignored declines => exact .ignored declines
  | pending takes busy empty => exact .pending takes busy empty
  | overlap takes busy held =>
    have overlap := Triggered.overlap (source := source) (position := position)
      (s := s.updLine (LineState.take kind tag)) takes busy held
    rw [State.updLine_line, LineState.raise_take] at overlap
    exact overlap
  | served i t takes idle got => exact .served i _ takes idle (got.updLine_take kind tag)
  | starved t takes idle got => exact .starved _ takes idle (got.updLine_take kind tag)

/-! ## TRIGGER (R12) -/

theorem exec_trigger (tag : Byte) (body : List Byte) (s : State) :
    exec (.trigger tag body) s = execTrigger tag body s :=
  rfl

theorem State.acceptsTrigger_iff (s : State) :
    s.acceptsTrigger = true ↔ s.run.part = .running ∧ ∃ c, s.run.current = some c ∧ c.mode = .host := by
  simp [State.acceptsTrigger]

/-- R12: outside a HOST-mode run in RUNNING, TRIGGER is refused WRONG_STATE, by the screen of R1 or by its own rule. -/
theorem State.request_trigger_refused {tag : Byte} {s : State} (h : s.takes RequestKind.trigger.byte tag [])
    (rejects : ¬ s.acceptsTrigger = true) :
    s.request .trigger tag [] true State.hostTrigger = s.withRefusal .trigger tag .wrongState := by
  rw [← State.refuse_taken (by decide)]
  cases answered : RequestKind.trigger.answeredIn s.run.part with
  | false => exact State.request_screened h answered _
  | true =>
    rw [State.request_answered h answered rfl, State.hostTrigger]
    exact if_neg rejects

/-- R12: a TRIGGER accepted is one trigger, and its reply names what became of it. -/
theorem State.request_trigger_accepted {tag : Byte} {s t : State} {o : TriggerOutcome}
    (h : s.takes RequestKind.trigger.byte tag []) (accepts : s.acceptsTrigger = true)
    (got : Triggered .host s.travel.position s o t) :
    s.request .trigger tag [] true State.hostTrigger = t.withDone .trigger tag (.trigger o) := by
  have answered : RequestKind.trigger.answeredIn s.run.part = true := by
    rw [(s.acceptsTrigger_iff.mp accepts).1]
    rfl
  have taken := State.takeTrigger_eq (got.updLine_take RequestKind.trigger.byte tag)
  rw [State.request_answered h answered rfl, State.hostTrigger, if_pos (by exact accepts), State.updLine_travel, taken]
  exact State.done_taken (by decide) tag _ t

/-- Settles O24: TRIGGER is refused unless the part is in a HOST-mode run, and otherwise is the one trigger that
`Triggered` describes. -/
theorem hostTriggerRepliesItsOutcome : Obligations.HostTriggerRepliesItsOutcome := by
  intro tag s h
  have event : exec (.trigger tag []) s = .next (s.request .trigger tag [] true State.hostTrigger).ended := by
    rw [exec_trigger, execTrigger, Event.run_powered h.1.1]
  rw [event]
  constructor
  · intro other
    have rejects : ¬ s.acceptsTrigger = true := by
      rw [State.acceptsTrigger_iff]
      rintro ⟨running, c, opened, host⟩
      rcases other with stopped | mode
      · exact stopped running
      · exact mode c opened host
    rw [State.request_trigger_refused h rejects, State.withRefusal_ended h.1]
  · intro c o t running opened host got
    rw [State.request_trigger_accepted h (s.acceptsTrigger_iff.mpr ⟨running, c, opened, host⟩) got]

end Sys2Proof.Machine

/-! PROOFS. The travel counter: SET_POSITION (R25) and the changes of the wheel's phases (R22, R23, R27, R28, R34). -/

namespace Sys2Proof.Machine

/-! ## A request in the part states that handle it (R1) -/

/-- R1: but for IDENTIFY, STATUS and WAKE, the part states that answer a request are those that handle every one. -/
theorem RequestKind.answeredIn_eq_handles {kind : RequestKind} (identify : kind ≠ .identify)
    (status : kind ≠ .status) (wake : kind ≠ .wake) (p : PartState) : kind.answeredIn p = p.handles := by
  cases p with
  | ready | running | stopping | parked => rfl
  | startup | waking | dormant => simp [RequestKind.answeredIn, PartState.handles]

/-- R164: a reply to a part between two events is the whole of its event. -/
theorem State.withReply_ended {s : State} (h : s.between) (kind tag : Byte) (body : ReplyBody) :
    (s.withReply kind tag body).ended = s.withReply kind tag body := by
  refine State.ended_of_no_notice ?_
  rw [← h.2]
  exact LineState.withMessage_staged _ _ _ s.line

/-! ## SET_POSITION (R25) -/

theorem exec_setPosition (tag : Byte) (body : List Byte) (s : State) :
    exec (.setPosition tag body) s = execSetPosition tag body s :=
  rfl

/-- R173: the four bytes at the front of a body are one number. -/
theorem numberAt_four (b0 b1 b2 b3 : Byte) (rest : List Byte) :
    numberAt (b0 :: b1 :: b2 :: b3 :: rest) 0 4 = le4 b0 b1 b2 b3 := by
  simp only [numberAt, fieldAt, List.drop_zero, List.take_succ_cons, List.take_zero, natOf, le4]
  omega

/-- R25: the position put, and the reply with the position before, of a message just taken. -/
theorem State.setPosition_taken (tag b0 b1 b2 b3 : Byte) (s : State) :
    (s.updLine (LineState.take RequestKind.setPosition.byte tag)).setPosition [b0, b1, b2, b3] =
      State.withDone .setPosition tag (.position s.travel.position)
        { s with travel := { s.travel with position := BitVec.ofNat 32 (le4 b0 b1 b2 b3) } } := by
  rw [State.setPosition, numberAt_four]
  exact State.done_taken (by decide) tag _
    { s with travel := { s.travel with position := BitVec.ofNat 32 (le4 b0 b1 b2 b3) } }

/-- Settles O27: the part states that handle requests replace the position, and the other three refuse. -/
theorem setPositionReplacesThePosition : Obligations.SetPositionReplacesThePosition := by
  intro tag b0 b1 b2 b3 s
  have answered : RequestKind.setPosition.answeredIn s.run.part = s.run.part.handles :=
    RequestKind.answeredIn_eq_handles (by decide) (by decide) (by decide) _
  constructor
  · intro ⟨taken, handled⟩
    rw [exec_setPosition, execSetPosition, Event.run_powered taken.1.1,
      State.request_answered taken (answered.trans handled) rfl, State.setPosition_taken]
    refine congrArg Host.Outcome.next (State.withReply_ended ?_ _ _ _)
    exact taken.1
  · intro taken screened
    rw [exec_setPosition, execSetPosition, Event.run_powered taken.1.1,
      State.request_screened taken (answered.trans screened), State.refuse_taken (by decide),
      State.withRefusal_ended taken.1]

/-! ## What a change of the phases is (R22, R23) -/

theorem isForward_iff (before after : Bool × Bool) : isForward before after ↔ after = forwardOf before := by
  revert before after
  unfold isForward
  decide

theorem transitionOf_self (reference : Bool × Bool) : transitionOf reference reference = .unchanged :=
  if_pos rfl

theorem transitionOf_forward {reference levels : Bool × Bool} (h : isForward reference levels) :
    transitionOf reference levels = .forward := by
  obtain rfl := (isForward_iff _ _).mp h
  clear h
  revert reference
  decide

theorem transitionOf_reverse {reference levels : Bool × Bool} (h : isForward levels reference) :
    transitionOf reference levels = .reverse := by
  obtain rfl := (isForward_iff _ _).mp h
  clear h
  revert levels
  decide

/-- R23: both phases changed at once. -/
theorem transitionOf_invalid {refA refB a b : Bool} (hA : a ≠ refA) (hB : b ≠ refB) :
    transitionOf (refA, refB) (a, b) = .invalid := by
  revert refA refB a b
  decide

/-! ## What a count issues (R27, R34) -/

/-- R22: a count is the edge the travel counter takes, then the trigger and the waking it brings. -/
theorem State.countEdge_eq (forward a b : Bool) (time : Nat) (s : State) :
    (s.updPins fun p => { p with phaseA := a, phaseB := b }).countEdge forward a b time =
      ((edgeTaken forward a b time s).distanceTrigger (s.travel.reachesZero forward)).motionWake :=
  rfl

/-- R27, R28: only a forward count brings a countdown to 0, and only from 1. -/
theorem TravelState.reachesZero_false {v : TravelState} {forward : Bool}
    (h : ∀ c, v.countdown = some c → forward = true → 1 < c) : v.reachesZero forward = false := by
  unfold TravelState.reachesZero
  cases active : v.countdown with
  | none => rfl
  | some c =>
    cases forward with
    | false => rfl
    | true => simpa using h c active rfl

theorem TravelState.reachesZero_true {v : TravelState} {c : Nat} (active : v.countdown = some c) (last : c ≤ 1) :
    v.reachesZero true = true := by
  simp [TravelState.reachesZero, active, last]

theorem State.distanceTrigger_false (s : State) : s.distanceTrigger false = s :=
  rfl

/-- R27: the trigger of a countdown that reached 0 carries the position just reached. -/
theorem State.distanceTrigger_true {s t : State} {o : TriggerOutcome}
    (h : Triggered .distance s.travel.position s o t) : s.distanceTrigger true = t := by
  rw [State.distanceTrigger, if_pos rfl, State.takeTrigger_eq h]

/-- A trigger leaves the part state. -/
theorem Triggered.run_part {source : Source} {position : Word32} {s t : State} {o : TriggerOutcome}
    (h : Triggered source position s o t) : t.run.part = s.run.part := by
  cases h with
  | ignored | pending | overlap => rfl
  | served _ _ _ _ got => cases got <;> rfl
  | starved _ _ _ got => cases got; rfl

/-- R34: outside DORMANT, or below WAKE_DISTANCE, the motion counter wakes nothing. -/
theorem State.motionWake_rests {s : State}
    (h : ∀ n, s.travel.motion = some n → s.run.part = .dormant → n < s.line.params.value .wakeDistance) :
    s.motionWake = s := by
  unfold State.motionWake
  cases counted : s.travel.motion with
  | none => rfl
  | some n =>
    refine if_neg ?_
    rintro ⟨dormant, reached⟩
    exact absurd reached (Nat.not_le.mpr (h n counted dormant))

theorem State.motionWake_wakes {s : State} {n : Nat} (dormant : s.run.part = .dormant)
    (counted : s.travel.motion = some n) (reached : s.line.params.value .wakeDistance ≤ n) :
    s.motionWake = s.beginWaking .motion := by
  rw [State.motionWake, counted]
  exact if_pos ⟨dormant, reached⟩

/-- R128: with no frame in the queue the engine takes none. -/
theorem State.engineTake_empty {s : State} (empty : s.frames.queue = []) : s.engineTake = s := by
  unfold State.engineTake
  rw [empty]
  cases s.engine.hand <;> rfl

/-- R21, R34: the entry to WAKING with no frame in the queue. -/
theorem State.beginWaking_eq {s : State} (empty : s.frames.queue = []) (reason : WakeReason) :
    s.beginWaking reason = { s with
      run := { s.run with part := .waking, wakeReason := some reason, wakeTimer := some 200 }
      travel := { s.travel with motion := none }
      monitor := { s.monitor with
        conversion := some
          { channel := s.monitor.scanPosition, kind := .scan, resolution := s.line.params.value .adcResolution } } } :=
  State.engineTake_empty empty

/-! ## QUADRATURE_CHANGE -/

theorem exec_quadratureChange (a b : Bool) (time : Nat) {s : State} (h : s.between) :
    exec (.quadratureChange a b time) s =
      .next ((s.updPins fun p => { p with phaseA := a, phaseB := b }).quadrature a b time).ended :=
  Event.run_powered (s := s.updPins _) h.1 _

/-- R22: a change of one phase is a count in its direction, and what the count issues. -/
theorem exec_quadratureChange_count {a b forward : Bool} {s : State} (h : s.between) (time : Nat)
    (ahead : forward = true → isForward (s.travel.refA, s.travel.refB) (a, b))
    (back : forward = false → isForward (a, b) (s.travel.refA, s.travel.refB)) :
    exec (.quadratureChange a b time) s =
      .next ((edgeTaken forward a b time s).distanceTrigger (s.travel.reachesZero forward)).motionWake.ended := by
  rw [exec_quadratureChange a b time h, ← State.countEdge_eq, State.quadrature, State.updPins_travel]
  cases forward with
  | true => rw [transitionOf_forward (ahead rfl)]
  | false => rw [transitionOf_reverse (back rfl)]

/-- R22, R28: a count that brings no countdown to 0 and no motion counter to WAKE_DISTANCE issues nothing. -/
theorem edgeTaken_issues_nothing {forward a b : Bool} {time : Nat} {s : State}
    (counts : ∀ c, s.travel.countdown = some c → forward = true → 1 < c)
    (dozes : ∀ n, s.travel.motion = some n → s.run.part = .dormant → n + 1 < s.line.params.value .wakeDistance) :
    ((edgeTaken forward a b time s).distanceTrigger (s.travel.reachesZero forward)).motionWake =
      edgeTaken forward a b time s := by
  rw [TravelState.reachesZero_false counts, State.distanceTrigger_false]
  refine State.motionWake_rests ?_
  intro m moved dormant
  obtain ⟨n, before, rfl⟩ := Option.map_eq_some_iff.mp moved
  exact dozes n before dormant

/-- R27: a forward count that brings the countdown to 0 outside DORMANT issues the DISTANCE trigger. -/
theorem edgeTaken_issues_trigger {a b : Bool} {time c : Nat} {s t : State} {o : TriggerOutcome}
    (active : s.travel.countdown = some c) (last : c ≤ 1) (awake : s.run.part ≠ .dormant)
    (got : Triggered .distance (edgeTaken true a b time s).travel.position (edgeTaken true a b time s) o t) :
    ((edgeTaken true a b time s).distanceTrigger (s.travel.reachesZero true)).motionWake = t := by
  rw [TravelState.reachesZero_true active last, State.distanceTrigger_true got]
  refine State.motionWake_rests ?_
  intro _ _ dormant
  exact absurd (got.run_part.symm.trans dormant) awake

/-- R34: in DORMANT a count that brings the motion counter to WAKE_DISTANCE wakes the part. -/
theorem edgeTaken_wakes {forward a b : Bool} {time n : Nat} {s : State} (dormant : s.run.part = .dormant)
    (counted : s.travel.motion = some n) (inactive : s.travel.countdown = none)
    (reached : s.line.params.value .wakeDistance ≤ n + 1) :
    ((edgeTaken forward a b time s).distanceTrigger (s.travel.reachesZero forward)).motionWake =
      (edgeTaken forward a b time s).beginWaking .motion := by
  rw [TravelState.reachesZero_false (by simp [inactive]), State.distanceTrigger_false]
  exact State.motionWake_wakes dormant (congrArg (Option.map (· + 1)) counted) reached

/-- R23: a change of both phases at once is no count. -/
theorem exec_quadratureChange_invalid {a b : Bool} {s : State} (h : s.between) (time : Nat)
    (hA : a ≠ s.travel.refA) (hB : b ≠ s.travel.refB) :
    exec (.quadratureChange a b time) s = .next { s with
      pins := { s.pins with phaseA := a, phaseB := b }
      line := (s.line.raise .encoderError).flush
      travel := { s.travel with refA := a, refB := b } } := by
  rw [exec_quadratureChange a b time h, State.quadrature, State.updPins_travel, transitionOf_invalid hA hB]
  rfl

/-- R22: levels equal to the reference are no change. -/
theorem exec_quadratureChange_unchanged {s : State} (h : s.between) (time : Nat) :
    exec (.quadratureChange s.travel.refA s.travel.refB time) s = .next { s with
      pins := { s.pins with phaseA := s.travel.refA, phaseB := s.travel.refB } } := by
  rw [exec_quadratureChange _ _ time h, State.quadrature, State.updPins_travel, transitionOf_self]
  exact congrArg Host.Outcome.next (State.ended_of_no_notice h.2)

/-- Settles O28: the four transitions, and for a count the three things it can issue. -/
theorem quadratureChangesAreCounted : Obligations.QuadratureChangesAreCounted := by
  constructor
  · intro a b forward time s h ahead back
    have count := exec_quadratureChange_count h time ahead back
    refine ⟨?_, ?_, ?_⟩
    · rintro ⟨counts, dozes⟩
      rw [count, edgeTaken_issues_nothing counts dozes]
      exact congrArg Host.Outcome.next (State.ended_of_no_notice h.2)
    · rintro c o t active last rfl awake got
      rw [count, edgeTaken_issues_trigger active last awake got]
    · intro n dormant counted inactive reached empty
      rw [count, edgeTaken_wakes dormant counted inactive reached,
        State.beginWaking_eq (s := edgeTaken forward a b time s) empty]
      exact congrArg Host.Outcome.next (State.ended_of_no_notice h.2)
  · intro a b time s h
    refine ⟨exec_quadratureChange_invalid h time, ?_⟩
    rintro rfl rfl
    exact exec_quadratureChange_unchanged h time

end Sys2Proof.Machine

/-! PROOFS. A request in a part state that handles it, the five reports (R51, R85, R102, R120, R156), and SEGMENT_SET
(R47 to R50). -/

namespace Sys2Proof.Machine

/-! ## The event of a request that is handled (R1, R163) -/

/-- R1: a part state that handles requests answers every kind. -/
theorem PartState.answers_of_handles {p : PartState} (h : p.handles = true) (kind : RequestKind) :
    kind.answeredIn p = true := by
  cases p with
  | ready | running | stopping | parked => rfl
  | startup | dormant | waking => exact absurd h (by decide)

/-- R163: the event of a handled request whose body has the right length is the request's own rule, on the part with the
message in hand. -/
theorem Event.run_handled {kind : RequestKind} {tag : Byte} {body : List Byte} {s : State}
    (h : s.handles kind tag body) (fits : kind.bodyFits body = true) (rule : State → State) :
    Event.run s (State.request kind tag body true rule) =
      .next (rule (s.updLine (LineState.take kind.byte tag))).ended := by
  rw [Event.run_powered h.1.1.1,
    State.request_answered h.1 (PartState.answers_of_handles h.2 kind) fits]

/-- A report that does not read the message in hand is carried by the reply as the part stands, and nothing else
changes. -/
theorem Event.run_report {kind : RequestKind} {tag : Byte} {s : State} (h : s.handles kind tag [])
    (notReset : kind ≠ .reset) (fits : kind.bodyFits [] = true) (report : State → Result)
    (reads : report (s.updLine (LineState.take kind.byte tag)) = report s) :
    Event.run s (State.request kind tag [] true fun t => t.done (report t)) =
      .next (s.withDone kind tag (report s)) := by
  rw [Event.run_handled h fits, reads, State.done_taken notReset]
  exact congrArg Host.Outcome.next (State.withReply_ended h.1.1 _ _ _)

/-! ## What the reports carry -/

theorem Table.get_map {n : Nat} {α β : Type} (f : α → β) (t : Table n α) (i : Fin n) :
    (t.map f).get i = f (t.get i) := by
  simp only [Table.map, Table.get, List.getElem_map]

/-- R37: a segment that is not ENABLED has effective ceiling 0. -/
theorem Segment.ceiling_eq (g : Segment) (group : Nat) :
    g.ceiling group = if g.state = .enabled then min g.hostCeiling group else 0 := by
  unfold Segment.ceiling
  cases g.state <;> rfl

theorem State.effectiveCeiling_eq (s : State) (i : Fin 12) :
    s.effectiveCeiling i =
      if (s.ring.segments.get i).state = .enabled then
        min (s.ring.segments.get i).hostCeiling (groupCeiling (s.monitor.thermalStep.get (groupOf i)))
      else 0 :=
  Segment.ceiling_eq _ _

/-- R85: with a conversion in flight, its resolution is reported. -/
theorem MonitorState.resolution_inFlight {m : MonitorState} {x : Conversion} (h : m.conversion = some x) :
    m.resolution = some x.resolution := by
  rw [MonitorState.resolution, h]

/-- R85, log 25: with none in flight, that of the last completed one is. -/
theorem MonitorState.resolution_idle {m : MonitorState} (h : m.conversion = none) :
    m.resolution = m.lastResolution := by
  rw [MonitorState.resolution, h]

theorem FrameStore.report_slot (f : FrameStore) (i : Fin 6) :
    f.report.slots.get i = (f.slots.get i).map Frame.summary :=
  Table.get_map _ _ i

/-- SEGMENT_REPORT (R51). -/
theorem exec_segmentReport {tag : Byte} {s : State} (h : s.handles .segmentReport tag []) :
    exec (.segmentReport tag []) s =
      .next (s.withDone .segmentReport tag (.segments (Table.ofFn s.segmentReport))) :=
  Event.run_report h (by decide) rfl (fun t => .segments (Table.ofFn t.segmentReport)) rfl

/-- MONITOR_REPORT (R85). -/
theorem exec_monitorReport {tag : Byte} {s : State} (h : s.handles .monitorReport tag []) :
    exec (.monitorReport tag []) s = .next (s.withDone .monitorReport tag (.monitor s.monitor.report)) :=
  Event.run_report h (by decide) rfl (fun t => .monitor t.monitor.report) rfl

/-- ZONE_REPORT (R102). -/
theorem exec_zoneReport {tag : Byte} {s : State} (h : s.handles .zoneReport tag []) :
    exec (.zoneReport tag []) s = .next (s.withDone .zoneReport tag (.zones s.balance.report)) :=
  Event.run_report h (by decide) rfl (fun t => .zones t.balance.report) rfl

/-- SLOT_REPORT (R120). -/
theorem exec_slotReport {tag : Byte} {s : State} (h : s.handles .slotReport tag []) :
    exec (.slotReport tag []) s = .next (s.withDone .slotReport tag (.slots s.frames.report)) :=
  Event.run_report h (by decide) rfl (fun t => .slots t.frames.report) rfl

/-- STORE_DIRECTORY (R156). -/
theorem exec_storeDirectory {tag : Byte} {s : State} (h : s.handles .storeDirectory tag []) :
    exec (.storeDirectory tag []) s = .next (s.withDone .storeDirectory tag (.directory s.directoryReport)) :=
  Event.run_report h (by decide) rfl (fun t => .directory t.directoryReport) rfl

/-- Settles O6: each report is carried by its own `exec_` equation, and its fields are those of the block. -/
theorem reportsCarryTheBlocksAsTheyStand : Obligations.ReportsCarryTheBlocksAsTheyStand := by
  constructor
  · intro tag s
    constructor
    · intro h
      refine ⟨Table.ofFn s.segmentReport, exec_segmentReport h, fun i => ?_⟩
      rw [Table.get_ofFn]
      refine ⟨rfl, fun enabled => ?_, fun other => ?_⟩
      · exact (s.effectiveCeiling_eq i).trans (if_pos enabled)
      · exact (s.effectiveCeiling_eq i).trans (if_neg other)
    · intro h
      exact ⟨s.monitor.report, exec_monitorReport h, rfl, rfl, rfl, rfl, rfl, rfl, fun g => Table.get_map _ _ g,
        fun _ inFlight => MonitorState.resolution_inFlight inFlight, MonitorState.resolution_idle⟩
  · intro tag s
    refine ⟨exec_zoneReport, fun h => ?_, exec_storeDirectory⟩
    refine ⟨s.frames.report, exec_slotReport h, rfl, rfl, fun i free => ?_, fun i f filled => ?_⟩
    · rw [FrameStore.report_slot, free, Option.map_none]
    · rw [FrameStore.report_slot, filled, Option.map_some]
      rfl

/-! ## What an action makes of a record (R48 to R50) -/

theorem Segment.enable_notFaulted {g : Segment} (h : g.state ≠ .faulted) :
    g.enable = some { g with state := .enabled } := by
  obtain ⟨state⟩ := g
  cases state with
  | disabled | enabled => rfl
  | faulted => exact absurd rfl h

theorem Segment.enable_faulted {g : Segment} (h : g.state = .faulted) : g.enable = none := by
  rw [Segment.enable, h]

theorem Segment.disable_notFaulted {g : Segment} (h : g.state ≠ .faulted) :
    g.disable = some { g with state := .disabled } := by
  obtain ⟨state⟩ := g
  cases state with
  | disabled | enabled => rfl
  | faulted => exact absurd rfl h

theorem Segment.disable_faulted {g : Segment} (h : g.state = .faulted) : g.disable = some g := by
  rw [Segment.disable, h]

theorem Segment.admitFaulted_faulted {g : Segment} (h : g.state = .faulted) :
    g.admitFaulted = some { g with state := .enabled, health := .untested, weakCount := 0, faultCount := 0 } := by
  rw [Segment.admitFaulted, h]

theorem Segment.admitFaulted_notFaulted {g : Segment} (h : g.state ≠ .faulted) : g.admitFaulted = none := by
  unfold Segment.admitFaulted
  cases hs : g.state with
  | disabled | enabled => rfl
  | faulted => exact absurd hs h

/-! ## SEGMENT_SET's rule on a message just taken (R47) -/

theorem segmentOf_val (i : Fin 12) : segmentOf i.val = some i :=
  dif_pos i.isLt

theorem segmentOf_above {n : Nat} (h : 12 ≤ n) : segmentOf n = none :=
  dif_neg (Nat.not_lt.mpr h)

/-- R173: one byte of a body, read as a number. -/
theorem numberAt_one {body : List Byte} {k : Nat} {b : Byte} (h : body[k]? = some b) : numberAt body k 1 = b.toNat := by
  obtain ⟨hk, rfl⟩ := List.getElem?_eq_some_iff.mp h
  simp only [numberAt, fieldAt, List.drop_eq_getElem_cons hk, List.take_succ_cons, List.take_zero, natOf]
  omega

section Rule

variable {tag : Byte} {body : List Byte} {i : Fin 12} {action : Segment → Option Segment} {s : State}

/-- R47: an action that the record allows replaces it, and the reply carries the record as it then stands. -/
theorem State.segmentSet_accepted {g : Segment} (named : segmentOf (numberAt body 0 1) = some i)
    (allows : action (s.ring.segments.get i) = some g) :
    (s.updLine (LineState.take RequestKind.segmentSet.byte tag)).segmentSet true action body =
      s.segmentAnswered tag i g := by
  have reported : (s.putSegment i g).segmentReport i =
      { segment := g
        effectiveCeiling :=
          if g.state = .enabled then
            min g.hostCeiling (groupCeiling (s.monitor.thermalStep.get (groupOf i)))
          else 0 } := by
    simp only [State.segmentReport, State.effectiveCeiling_eq, State.segmentAt, State.putSegment, State.updRing_ring,
      State.updRing_monitor, Table.get_set, if_true]
  have taken : (s.updLine (LineState.take RequestKind.segmentSet.byte tag)).segmentSet true action body =
      ((s.putSegment i g).updLine (LineState.take RequestKind.segmentSet.byte tag)).done
        (.segment ((s.putSegment i g).segmentReport i)) := by
    simp only [State.segmentSet, named, State.segmentAt, State.updLine_ring, allows, if_true]
    rfl
  rw [taken, reported]
  exact State.done_taken (by decide) tag _ (s.putSegment i g)

/-- R48, R49: an action that the record does not allow is refused WRONG_STATE. -/
theorem State.segmentSet_wrongState (named : segmentOf (numberAt body 0 1) = some i)
    (rejects : action (s.ring.segments.get i) = none) :
    (s.updLine (LineState.take RequestKind.segmentSet.byte tag)).segmentSet true action body =
      s.withRefusal .segmentSet tag .wrongState := by
  rw [← State.refuse_taken (by decide)]
  simp only [State.segmentSet, named, State.segmentAt, State.updLine_ring, rejects, if_true]

/-- R47: an undefined action, or a segment above 11, is refused BAD_VALUE. -/
theorem State.segmentSet_badValue {known : Bool}
    (bad : known = false ∨ segmentOf (numberAt body 0 1) = none) :
    (s.updLine (LineState.take RequestKind.segmentSet.byte tag)).segmentSet known action body =
      s.withRefusal .segmentSet tag .badValue := by
  rw [← State.refuse_taken (by decide), State.segmentSet]
  rcases bad with rfl | absent
  · cases segmentOf (numberAt body 0 1) <;> rfl
  · rw [absent]

end Rule

/-! ## The four rows of SEGMENT_SET -/

/-- What the four rows have in common: the row of one action code, which takes no message with the code of another
row. -/
def segmentSetRow (code : Nat) (action : Segment → Option Segment) (tag : Byte) (body : List Byte) (s : State) :
    Host.Outcome State Fault Refusal :=
  Event.run s (State.request .segmentSet tag body (codeNotOf ([1, 2, 3, 4].erase code) 1 body)
    (State.segmentSet (decide (actionOf body = code)) action body))

theorem exec_segmentEnable (tag : Byte) (body : List Byte) (s : State) :
    exec (.segmentEnable tag body) s = segmentSetRow 1 Segment.enable tag body s :=
  rfl

theorem exec_segmentDisable (tag : Byte) (body : List Byte) (s : State) :
    exec (.segmentDisable tag body) s = segmentSetRow 2 Segment.disable tag body s :=
  rfl

theorem exec_segmentAdmit (tag : Byte) (body : List Byte) (s : State) :
    exec (.segmentAdmit tag body) s = segmentSetRow 3 Segment.admitFaulted tag body s :=
  rfl

theorem exec_segmentCeiling (tag : Byte) (body : List Byte) (s : State) :
    exec (.segmentCeiling tag body) s = segmentSetRow 4 (Segment.putCeiling (numberAt body 2 1)) tag body s :=
  rfl

/-- A body with a row's own code, or with a code that is not defined, can come by the row (log 2). -/
theorem codeNotOf_others {code : Nat} {n a v : Byte} (own : a.toNat = code ∨ a.toNat = 0 ∨ 4 < a.toNat) :
    codeNotOf ([1, 2, 3, 4].erase code) 1 [n, a, v] = true := by
  have absent : a.toNat ∉ [1, 2, 3, 4].erase code := by
    rw [List.Nodup.mem_erase_iff (by decide)]
    rintro ⟨different, defined⟩
    simp only [List.mem_cons, List.not_mem_nil, or_false] at defined
    omega
  simpa [codeNotOf] using absent

section Row

variable {tag n a v : Byte} {i : Fin 12} {code : Nat} {action : Segment → Option Segment} {s : State}

theorem segmentSetRow_eq (h : s.handles .segmentSet tag [n, a, v])
    (own : a.toNat = code ∨ a.toNat = 0 ∨ 4 < a.toNat) :
    segmentSetRow code action tag [n, a, v] s =
      .next (State.segmentSet (decide (a.toNat = code)) action [n, a, v]
        (s.updLine (LineState.take RequestKind.segmentSet.byte tag))).ended := by
  have coded : actionOf [n, a, v] = a.toNat := numberAt_one rfl
  rw [segmentSetRow, codeNotOf_others own, Event.run_handled h rfl, coded]

theorem segmentSetRow_accepted {g : Segment} (h : s.handles .segmentSet tag [n, a, v]) (named : n.toNat = i.val)
    (own : a.toNat = code) (allows : action (s.ring.segments.get i) = some g) :
    segmentSetRow code action tag [n, a, v] s = .next (s.segmentAnswered tag i g) := by
  have segment : segmentOf (numberAt [n, a, v] 0 1) = some i := by
    rw [numberAt_one (k := 0) rfl, named, segmentOf_val]
  rw [segmentSetRow_eq h (.inl own), decide_eq_true own, State.segmentSet_accepted segment allows]
  refine congrArg Host.Outcome.next (State.withReply_ended ?_ _ _ _)
  exact h.1.1

theorem segmentSetRow_wrongState (h : s.handles .segmentSet tag [n, a, v]) (named : n.toNat = i.val)
    (own : a.toNat = code) (rejects : action (s.ring.segments.get i) = none) :
    segmentSetRow code action tag [n, a, v] s = .next (s.withRefusal .segmentSet tag .wrongState) := by
  have segment : segmentOf (numberAt [n, a, v] 0 1) = some i := by
    rw [numberAt_one (k := 0) rfl, named, segmentOf_val]
  rw [segmentSetRow_eq h (.inl own), decide_eq_true own, State.segmentSet_wrongState segment rejects,
    State.withRefusal_ended h.1.1]

theorem segmentSetRow_segmentAbove (h : s.handles .segmentSet tag [n, a, v]) (own : a.toNat = code)
    (above : 12 ≤ n.toNat) :
    segmentSetRow code action tag [n, a, v] s = .next (s.withRefusal .segmentSet tag .badValue) := by
  have absent : segmentOf (numberAt [n, a, v] 0 1) = none := by
    rw [numberAt_one (k := 0) rfl, segmentOf_above above]
  rw [segmentSetRow_eq h (.inl own), State.segmentSet_badValue (.inr absent), State.withRefusal_ended h.1.1]

theorem segmentSetRow_undefined (h : s.handles .segmentSet tag [n, a, v]) (defined : 1 ≤ code ∧ code ≤ 4)
    (undefined : a.toNat = 0 ∨ 4 < a.toNat) :
    segmentSetRow code action tag [n, a, v] s = .next (s.withRefusal .segmentSet tag .badValue) := by
  have other : decide (a.toNat = code) = false := decide_eq_false (by omega)
  rw [segmentSetRow_eq h (.inr undefined), State.segmentSet_badValue (.inl other), State.withRefusal_ended h.1.1]

end Row

/-- Settles O30: each row is `segmentSetRow` of its code and action, and the record either allows the action or does
not. -/
theorem segmentSetActsOnTheRecord : Obligations.SegmentSetActsOnTheRecord := by
  intro tag n a v s h
  refine ⟨?_, ?_, ?_⟩
  · intro i named g
    refine ⟨?enable, ?disable, ?readmission, ?ceiling⟩
    case enable =>
      rintro rfl
      rw [exec_segmentEnable]
      exact ⟨fun sound => segmentSetRow_accepted h named rfl (Segment.enable_notFaulted sound),
        fun faulted => segmentSetRow_wrongState h named rfl (Segment.enable_faulted faulted)⟩
    case disable =>
      rintro rfl
      rw [exec_segmentDisable]
      exact ⟨fun sound => segmentSetRow_accepted h named rfl (Segment.disable_notFaulted sound),
        fun faulted => segmentSetRow_accepted h named rfl (Segment.disable_faulted faulted)⟩
    case readmission =>
      rintro rfl
      rw [exec_segmentAdmit]
      exact ⟨fun faulted => segmentSetRow_accepted h named rfl (Segment.admitFaulted_faulted faulted),
        fun sound => segmentSetRow_wrongState h named rfl (Segment.admitFaulted_notFaulted sound)⟩
    case ceiling =>
      rintro rfl
      rw [exec_segmentCeiling, numberAt_one (k := 2) rfl]
      exact segmentSetRow_accepted h named rfl rfl
  · rintro c (⟨rfl, rfl⟩ | ⟨rfl, rfl⟩ | ⟨rfl, rfl⟩ | ⟨rfl, rfl⟩) above
    · exact (exec_segmentEnable _ _ s).trans (segmentSetRow_segmentAbove h rfl above)
    · exact (exec_segmentDisable _ _ s).trans (segmentSetRow_segmentAbove h rfl above)
    · exact (exec_segmentAdmit _ _ s).trans (segmentSetRow_segmentAbove h rfl above)
    · exact (exec_segmentCeiling _ _ s).trans (segmentSetRow_segmentAbove h rfl above)
  · rintro c (rfl | rfl | rfl | rfl) undefined
    · exact (exec_segmentEnable _ _ s).trans (segmentSetRow_undefined h (by decide) undefined)
    · exact (exec_segmentDisable _ _ s).trans (segmentSetRow_undefined h (by decide) undefined)
    · exact (exec_segmentAdmit _ _ s).trans (segmentSetRow_undefined h (by decide) undefined)
    · exact (exec_segmentCeiling _ _ s).trans (segmentSetRow_undefined h (by decide) undefined)

end Sys2Proof.Machine

/-! PROOFS. The strobe conversion of the supply monitor (R77, R78). -/

namespace Sys2Proof.Machine

/-! ## Readings and thresholds (R75, R79) -/

/-- R75: a code of the conversion's resolution is scaled as it stands. -/
theorem scaledReading_eq {code resolution : Nat} (fits : code < 2 ^ resolution) (full : Nat) :
    scaledReading code full resolution = code * full / 2 ^ resolution := by
  rw [scaledReading, Nat.mod_eq_of_lt fits]

/-- R79: a divider's reading, a number of tenths of a volt, is below a threshold as numbers are. -/
theorem lt_supplyThreshold_iff (v index : Nat) : (v : Int) < supplyThreshold index ↔ v < 150 + 10 * index := by
  unfold supplyThreshold
  omega

theorem LineState.raise_params (c : Condition) (l : LineState) : (l.raise c).params = l.params := by
  unfold LineState.raise
  split <;> rfl

/-! ## The end of a strobe conversion (R77) -/

/-- R77: the monitor once a strobe conversion's result is the last strobe reading, before its comparison. -/
def MonitorState.withStrobeReading (v frame resolution : Nat) (m : MonitorState) : MonitorState :=
  { m with conversion := none, lastStrobe := some (v, frame), lastResolution := some resolution }

theorem exec_strobeConversionEnd (code : Nat) {s : State} (h : s.between) :
    exec (.strobeConversionEnd code) s = .next (s.strobeConversionEnded code).ended :=
  Event.run_powered h.1 _

section Ends

variable {code res n : Nat} {i : Fin 6} {s : State}

/-- R77: the reading is recorded and compared with DROOP_LEVEL, and the scan resumes. -/
theorem State.strobeConversionEnded_eq
    (inFlight : s.monitor.conversion = some { channel := .supply, kind := .strobe i n, resolution := res })
    (fits : code < 2 ^ res) :
    s.strobeConversionEnded code =
      (if code * 320 / 2 ^ res < 150 + 10 * s.line.params.value .droopLevel then
        (s.updMonitor (MonitorState.withStrobeReading (code * 320 / 2 ^ res) n res)).drooped i n
      else (s.updMonitor (MonitorState.withStrobeReading (code * 320 / 2 ^ res) n res)).updMonitor
        MonitorState.droopless).startScan := by
  simp only [State.strobeConversionEnded, inFlight, scaledReading_eq fits, lt_supplyThreshold_iff]
  rfl

/-- R77, R106: the frame the reading concerns is flagged DROOP in its slot. -/
theorem State.flagDroop_eq {f : Frame} (holds : s.frames.slots.get i = some f) :
    s.flagDroop i f.number = { s with frames := { s.frames with
      slots := s.frames.slots.set i (some { f with flags := { f.flags with droop := true } }) } } := by
  simp only [State.flagDroop, State.modifyFrame, State.frameAt, holds, Option.map_some, if_true]
  rfl

/-- R77: the sixteenth reading in a row without droop lowers the step. -/
theorem MonitorState.droopless_eq (m : MonitorState) :
    m.droopless = if m.droopFree + 1 < 16 then { m with droopFree := m.droopFree + 1 }
      else { m with droopFree := 0, supplyStep := m.supplyStep - 1 } :=
  if_congr (by omega) rfl rfl

/-- R77: the part after a droop, the scan resumed with the ADC_RESOLUTION that raising SUPPLY_DROOP leaves as it was. -/
theorem State.startScan_drooped {f : Frame} (holds : s.frames.slots.get i = some f) :
    (s.drooped i f.number).startScan = { s with
      monitor := { s.monitor with
        supplyStep := min 6 (s.monitor.supplyStep + 1)
        droopFree := 0
        conversion := some
          { channel := s.monitor.scanPosition, kind := .scan, resolution := s.line.params.value .adcResolution } }
      frames := { s.frames with
        slots := s.frames.slots.set i (some { f with flags := { f.flags with droop := true } }) }
      line := s.line.raise .supplyDroop } := by
  rw [← LineState.raise_params .supplyDroop s.line, State.drooped, State.flagDroop_eq holds]
  rfl

/-- R77: the part after a reading without droop, the scan resumed; the count and the step do not bear on the scan. -/
theorem State.startScan_droopless (s : State) :
    (s.updMonitor MonitorState.droopless).startScan = { s with
      monitor := MonitorState.droopless { s.monitor with
        conversion := some
          { channel := s.monitor.scanPosition, kind := .scan, resolution := s.line.params.value .adcResolution } } } :=
    by
  simp only [State.startScan, State.updMonitor, MonitorState.droopless]
  split <;> rfl

end Ends

/-- Settles O38: the reading is either below the DROOP_LEVEL threshold or not; without droop the event queues no
notice. -/
theorem strobeReadingsMoveTheSupplyStep : Obligations.StrobeReadingsMoveTheSupplyStep := by
  intro code res n i f s between inFlight fits holds numbered v m
  subst numbered
  rw [exec_strobeConversionEnd code between, State.strobeConversionEnded_eq inFlight fits]
  constructor
  · intro below
    rw [if_pos below]
    exact congrArg (fun t => Host.Outcome.next (State.ended t))
      (State.startScan_drooped (s := s.updMonitor _) holds)
  · intro above
    rw [if_neg (Nat.not_lt.mpr above), State.startScan_droopless, MonitorState.droopless_eq]
    exact congrArg Host.Outcome.next (State.ended_of_no_notice between.2)

end Sys2Proof.Machine

/-! PROOFS. The balance requests: BALANCE_HOLD (R99), BALANCE_RELEASE (R100) and BALANCE_RESTART (R101, R96). -/

namespace Sys2Proof.Machine

/-- R164: a handled request whose rule, on the part with the message in hand, makes `t` of the part and replies DONE is
answered in its event and leaves `t`. -/
theorem Event.run_done {kind : RequestKind} {tag : Byte} {body : List Byte} {s t : State} {rule : State → State}
    {r : Result} (h : s.handles kind tag body) (notReset : kind ≠ .reset) (fits : kind.bodyFits body = true)
    (after : t.between)
    (answers : rule (s.updLine (LineState.take kind.byte tag)) = (t.updLine (LineState.take kind.byte tag)).done r) :
    Event.run s (State.request kind tag body true rule) = .next (t.withDone kind tag r) := by
  rw [Event.run_handled h fits, answers, State.done_taken notReset]
  exact congrArg Host.Outcome.next (State.withReply_ended after _ _ _)

/-- The balance unit has no part in what lies between two events. -/
theorem State.between_updBalance {s : State} (h : s.between) (f : BalanceUnit → BalanceUnit) :
    (s.updBalance f).between :=
  h

/-! ## BALANCE_HOLD and BALANCE_RELEASE (R99, R100) -/

section Requests

variable {tag : Byte} {s : State}

theorem exec_balanceHold (h : s.handles .balanceHold tag []) :
    exec (.balanceHold tag []) s =
      .next ((s.updBalance fun u => { u with state := .held }).withDone .balanceHold tag .nothing) :=
  Event.run_done h (by decide) rfl (State.between_updBalance h.1.1 _) rfl

theorem exec_balanceRelease_held (h : s.handles .balanceRelease tag []) (held : s.balance.state = .held) :
    exec (.balanceRelease tag []) s =
      .next ((s.updBalance fun u => { u with state := .settling, settle := 0 }).withDone .balanceRelease tag
        .nothing) :=
  Event.run_done h (by decide) rfl (State.between_updBalance h.1.1 _) (if_pos held)

theorem exec_balanceRelease_notHeld (h : s.handles .balanceRelease tag []) (other : s.balance.state ≠ .held) :
    exec (.balanceRelease tag []) s = .next (s.withRefusal .balanceRelease tag .wrongState) := by
  have refused : (s.updLine (LineState.take RequestKind.balanceRelease.byte tag)).balanceRelease =
      s.withRefusal .balanceRelease tag .wrongState :=
    (if_neg other).trans (State.refuse_taken (by decide) tag .wrongState s)
  have event : exec (.balanceRelease tag []) s =
      .next (s.updLine (LineState.take RequestKind.balanceRelease.byte tag)).balanceRelease.ended :=
    Event.run_handled h rfl _
  rw [event, refused, State.withRefusal_ended h.1.1]

/-! ## BALANCE_RESTART (R101, R96) -/

theorem exec_balanceRestart (h : s.handles .balanceRestart tag []) :
    exec (.balanceRestart tag []) s =
      .next ((s.enterCold.updBalance fun u => { u with stale := s.litFrame }).withDone .balanceRestart tag
        .nothing) :=
  Event.run_done h (by decide) rfl (State.between_updBalance (State.between_updBalance h.1.1 _) _) rfl

end Requests

/-- R122: the one bank in state CURRENT is the CURRENT bank. -/
theorem EngineState.current_eq {e : EngineState} {w : BankId} (current : (e.bank w).state = .current)
    (only : (e.bank w.other).state ≠ .current) : e.current = w := by
  cases w with
  | a => exact if_neg only
  | b => exact if_pos current

/-- R96: an entry to COLD with the profile of the CURRENT bank. -/
theorem State.enterCold_eq {s : State} {w : BankId} {p : Profile} (current : s.engine.current = w)
    (holds : (s.engine.bank w).contents = some p) :
    s.enterCold = s.updBalance fun u => { u with
      state := .cold
      settle := 0
      energies := p.startLevels.map fun level => level * s.line.params.value .strobeMax } := by
  have tables : s.engine.tables s.engine.current = p := by
    rw [current, EngineState.tables, holds, Option.getD_some]
  rw [State.enterCold, tables]
  rfl

/-- R101: with no slot EXPOSING or READING no frame becomes stale. -/
theorem State.litFrame_none {s : State}
    (dark : ∀ (i : Fin 6) (f : Frame), s.frames.slots.get i = some f → f.state ≠ .exposing ∧ f.state ≠ .reading) :
    s.litFrame = none := by
  have absent : s.slotIn (fun p => decide (p = .exposing ∨ p = .reading)) = none :=
    State.slotIn_none fun i f filled => decide_eq_false (not_or.mpr (dark i f filled))
  rw [State.litFrame, absent]

/-- R101: the frame EXPOSING or READING, which is alone on the sensor path, becomes stale. -/
theorem State.litFrame_alone {i : Fin 6} {f : Frame} {s : State} (filled : s.frames.slots.get i = some f)
    (lit : f.state = .exposing ∨ f.state = .reading) (alone : s.aloneOnPath i) : s.litFrame = some f.number := by
  have onPath (x : FrameState) (passes : decide (x = .exposing ∨ x = .reading) = true) : x.onSensorPath = true := by
    obtain rfl | rfl := of_decide_eq_true passes <;> rfl
  have found : s.slotIn (fun p => decide (p = .exposing ∨ p = .reading)) = some i :=
    State.slotIn_alone filled (decide_eq_true lit) onPath alone
  rw [State.litFrame, found]
  exact congrArg (Option.map Frame.number) filled

/-- Settles O39: each request is its own `exec_` equation; the frame a restart makes stale is `litFrame`. -/
theorem balanceRequestsSetTheState : Obligations.BalanceRequestsSetTheState := by
  intro tag s
  refine ⟨exec_balanceHold, fun h => ⟨exec_balanceRelease_held h, exec_balanceRelease_notHeld h⟩, ?restart⟩
  case restart =>
    intro w p h current only holds
    refine ⟨s.litFrame, ?_, State.litFrame_none, fun i f => State.litFrame_alone⟩
    rw [exec_balanceRestart h, State.enterCold_eq (EngineState.current_eq current only) holds]
    rfl

end Sys2Proof.Machine

/-! PROOFS. RELEASE_FRAME (R117). -/

namespace Sys2Proof.Machine

/-! ## The event of a request that is refused (R1, R163) -/

/-- R1: a request in a part state that handles none is refused WRONG_STATE, and nothing else changes. -/
theorem Event.run_screened {kind : RequestKind} {tag : Byte} {body : List Byte} {s : State}
    (h : s.takes kind.byte tag body) (notReset : kind ≠ .reset) (screened : kind.answeredIn s.run.part = false)
    (rule : State → State) :
    Event.run s (State.request kind tag body true rule) = .next (s.withRefusal kind tag .wrongState) := by
  rw [Event.run_powered h.1.1, State.request_screened h screened, State.refuse_taken notReset,
    State.withRefusal_ended h.1]

/-- R163: a handled request that its own rule, on the part with the message in hand, refuses changes nothing but the
line. -/
theorem Event.run_refused {kind : RequestKind} {tag : Byte} {body : List Byte} {s : State} {rule : State → State}
    {r : Reason} (h : s.handles kind tag body) (notReset : kind ≠ .reset) (fits : kind.bodyFits body = true)
    (refuses : rule (s.updLine (LineState.take kind.byte tag)) =
      (s.updLine (LineState.take kind.byte tag)).refuse r) :
    Event.run s (State.request kind tag body true rule) = .next (s.withRefusal kind tag r) := by
  rw [Event.run_handled h fits, refuses, State.refuse_taken notReset, State.withRefusal_ended h.1.1]

/-! ## The slot and the frame a request names -/

theorem slotOf_val (i : Fin 6) : slotOf i.val = some i :=
  dif_pos i.isLt

theorem slotOf_above {n : Nat} (h : 6 ≤ n) : slotOf n = none :=
  dif_neg (Nat.not_lt.mpr h)

/-- R173: after the slot's byte come the four bytes of the frame number. -/
theorem frameNumberOf_cons (n b0 b1 b2 b3 : Byte) (rest : List Byte) :
    frameNumberOf (n :: b0 :: b1 :: b2 :: b3 :: rest) = le4 b0 b1 b2 b3 :=
  numberAt_four b0 b1 b2 b3 rest

section Slot

variable {i : Fin 6} {f : Frame} {number : Nat} {s : State}

theorem State.namedFrame_some (filled : s.frames.slots.get i = some f) (numbered : f.number = number) :
    s.namedFrame i number = some f := by
  rw [State.namedFrame, State.frameAt, filled]
  exact if_pos numbered

/-- R117: a FREE slot, or one with a frame of another number, does not hold the frame named. -/
theorem State.namedFrame_none (other : ∀ f, s.frames.slots.get i = some f → f.number ≠ number) :
    s.namedFrame i number = none := by
  rw [State.namedFrame, State.frameAt]
  cases holds : s.frames.slots.get i with
  | none => rfl
  | some f => exact if_neg (other f holds)

/-! ## A slot becomes FREE (R107) -/

/-- R107, R127: a slot leaves a referencing state for FREE, and its bank reference ends. -/
theorem State.discard_referencing (filled : s.frames.slots.get i = some f) (refers : f.state.referencing = true) :
    s.discard i = { s with
      frames := { s.frames with slots := s.frames.slots.set i none }
      engine := s.engine.released f.bank } := by
  rw [← EngineState.endReference_eq, State.discard, State.frameAt, filled]
  exact if_pos refers

/-- R107: a slot in a state without a bank reference becomes FREE, and no bank changes. -/
theorem State.discard_unreferenced (filled : s.frames.slots.get i = some f) (free : f.state.referencing = false) :
    s.discard i = { s with frames := { s.frames with slots := s.frames.slots.set i none } } := by
  rw [State.discard, State.frameAt, filled]
  exact if_neg (ne_true_of_eq_false free)

theorem State.modifyFrame_filled (filled : s.frames.slots.get i = some f) (g : Frame → Frame) :
    s.modifyFrame i g = { s with frames := { s.frames with slots := s.frames.slots.set i (some (g f)) } } := by
  rw [State.modifyFrame, State.frameAt, filled]
  rfl

/-! ## The release by the slot's state (R117) -/

/-- R117: a frame on the sensor path, or being sent, is not released. -/
theorem State.releaseNamed_busy
    (h : f.state = .armed ∨ f.state = .exposing ∨ f.state = .reading ∨ f.state = .sending) :
    s.releaseNamed i f = s.refuse .busy := by
  rw [State.releaseNamed]
  rcases h with h | h | h | h <;> rw [h]

/-- R117, R116: a WAITING slot leaves the correction queue and becomes FREE. -/
theorem State.releaseNamed_waiting (filled : s.frames.slots.get i = some f) (h : f.state = .waiting) :
    s.releaseNamed i f = State.done (.release .freed) { s with
      frames := { s.frames with
        slots := s.frames.slots.set i none
        queue := s.frames.queue.filter fun j => decide (j ≠ i) }
      engine := s.engine.released f.bank } := by
  have refers : f.state.referencing = true := by rw [h]; rfl
  rw [State.releaseNamed, h]
  exact congrArg (State.done _) (State.discard_referencing (s := s.updFrames _) filled refers)

/-- R117, R118: a CORRECTING slot gets the abandon mark. -/
theorem State.releaseNamed_correcting (filled : s.frames.slots.get i = some f) (h : f.state = .correcting) :
    s.releaseNamed i f = State.done (.release .abandonPending) { s with
      frames := { s.frames with slots := s.frames.slots.set i (some { f with abandon := true }) } } := by
  have marks : s.releaseNamed i f =
      (s.modifyFrame i fun g => { g with abandon := true }).done (.release .abandonPending) := by
    rw [State.releaseNamed, h]
  rw [marks, State.modifyFrame_filled filled]

/-- R117: a frame that is READY, HELD or SENT is discarded. -/
theorem State.releaseNamed_delivered (filled : s.frames.slots.get i = some f)
    (h : f.state = .ready ∨ f.state = .held ∨ f.state = .sent) :
    s.releaseNamed i f = State.done (.release .freed) { s with
      frames := { s.frames with slots := s.frames.slots.set i none } } := by
  have free : f.state.referencing = false := by rcases h with h | h | h <;> rw [h] <;> rfl
  rw [← State.discard_unreferenced filled free, State.releaseNamed]
  rcases h with h | h | h <;> rw [h]

end Slot

/-! ## RELEASE_FRAME -/

section Request

variable {tag n b0 b1 b2 b3 : Byte} {i : Fin 6} {f : Frame} {s : State}

theorem State.releaseFrame_badValue (above : 6 ≤ n.toNat) :
    s.releaseFrame [n, b0, b1, b2, b3] = s.refuse .badValue := by
  rw [State.releaseFrame, numberAt_one (k := 0) rfl, slotOf_above above]

theorem State.releaseFrame_stale (slot : n.toNat = i.val)
    (other : ∀ f, s.frames.slots.get i = some f → f.number ≠ le4 b0 b1 b2 b3) :
    s.releaseFrame [n, b0, b1, b2, b3] = s.refuse .stale := by
  rw [State.releaseFrame, numberAt_one (k := 0) rfl, slot, slotOf_val, frameNumberOf_cons]
  dsimp only
  rw [State.namedFrame_none other]

theorem State.releaseFrame_named (slot : n.toNat = i.val) (filled : s.frames.slots.get i = some f)
    (numbered : f.number = le4 b0 b1 b2 b3) :
    s.releaseFrame [n, b0, b1, b2, b3] = s.releaseNamed i f := by
  rw [State.releaseFrame, numberAt_one (k := 0) rfl, slot, slotOf_val, frameNumberOf_cons]
  dsimp only
  rw [State.namedFrame_some filled numbered]

/-- R1: STARTUP, DORMANT and WAKING refuse RELEASE_FRAME. -/
theorem exec_releaseFrame_screened {body : List Byte} (h : s.takes RequestKind.releaseFrame.byte tag body)
    (screened : s.run.part.handles = false) :
    exec (.releaseFrame tag body) s = .next (s.withRefusal .releaseFrame tag .wrongState) :=
  Event.run_screened h (by decide)
    ((RequestKind.answeredIn_eq_handles (by decide) (by decide) (by decide) _).trans screened) _

theorem exec_releaseFrame_refused {r : Reason} (h : s.handles .releaseFrame tag [n, b0, b1, b2, b3])
    (refuses : (s.updLine (LineState.take RequestKind.releaseFrame.byte tag)).releaseFrame [n, b0, b1, b2, b3] =
      (s.updLine (LineState.take RequestKind.releaseFrame.byte tag)).refuse r) :
    exec (.releaseFrame tag [n, b0, b1, b2, b3]) s = .next (s.withRefusal .releaseFrame tag r) :=
  Event.run_refused h (by decide) rfl refuses

/-- R117: a release that is DONE changes the frame store and the engine, which have no part in what lies between two
events. -/
theorem exec_releaseFrame_done {r : Result} {frames : FrameStore} {engine : EngineState}
    (h : s.handles .releaseFrame tag [n, b0, b1, b2, b3])
    (answers : (s.updLine (LineState.take RequestKind.releaseFrame.byte tag)).releaseFrame [n, b0, b1, b2, b3] =
      State.done r { s.updLine (LineState.take RequestKind.releaseFrame.byte tag) with
        frames := frames, engine := engine }) :
    exec (.releaseFrame tag [n, b0, b1, b2, b3]) s =
      .next (State.withDone .releaseFrame tag r { s with frames := frames, engine := engine }) :=
  Event.run_done (t := { s with frames := frames, engine := engine }) h (by decide) rfl h.1.1 answers

end Request

/-- Settles O43: the screen, the slot number and the frame number are tested in this order, and a frame that is there is
released by its slot's state. -/
theorem releaseFrameActsByTheSlotState : Obligations.ReleaseFrameActsByTheSlotState := by
  intro tag n b0 b1 b2 b3 s c number
  refine ⟨exec_releaseFrame_screened, fun h => ⟨fun above => ?badValue, fun i slot => ⟨fun other => ?stale, ?named⟩⟩⟩
  case badValue => exact exec_releaseFrame_refused h (State.releaseFrame_badValue above)
  case stale => exact exec_releaseFrame_refused h (State.releaseFrame_stale slot other)
  case named =>
    intro f filled numbered
    have named := State.releaseFrame_named (s := s.updLine (LineState.take RequestKind.releaseFrame.byte tag))
      slot filled numbered
    refine ⟨fun busy => ?_, fun waiting => ?_, fun correcting => ?_, fun delivered => ?_⟩
    · exact exec_releaseFrame_refused h (named.trans (State.releaseNamed_busy busy))
    · exact exec_releaseFrame_done h (named.trans (State.releaseNamed_waiting filled waiting))
    · exact exec_releaseFrame_done h (named.trans (State.releaseNamed_correcting filled correcting))
    · exact exec_releaseFrame_done h (named.trans (State.releaseNamed_delivered filled delivered))

end Sys2Proof.Machine

/-! PROOFS. TRANSFER_GRANT (R137 to R139). -/

namespace Sys2Proof.Machine

/-! ## The operands of a grant (R137) -/

/-- A start is a tile number, or 255 for CONTINUE. -/
theorem startOf_eq_some_iff {n : Nat} {o : Option Nat} :
    startOf n = some o ↔ n ≤ 191 ∧ o = some n ∨ n = 255 ∧ o = none := by
  unfold startOf
  split
  case isTrue tile =>
    have other : n ≠ 255 := by omega
    simp [tile, other, eq_comm]
  case isFalse noTile =>
    split
    case isTrue continues => simp [continues, eq_comm]
    case isFalse noContinue => simp [noTile, noContinue]

theorem startOf_isSome {n : Nat} (h : n ≤ 191 ∨ n = 255) : ∃ o, startOf n = some o := by
  rcases h with tile | continues
  · exact ⟨_, startOf_eq_some_iff.mpr (.inl ⟨tile, rfl⟩)⟩
  · exact ⟨_, startOf_eq_some_iff.mpr (.inr ⟨continues, rfl⟩)⟩

theorem startOf_eq_none {n : Nat} (h : ¬ (n ≤ 191 ∨ n = 255)) : startOf n = none := by
  obtain ⟨noTile, noContinue⟩ := not_or.mp h
  rw [startOf, if_neg noTile, if_neg noContinue]

/-- R137, R139: a start that continues, or that is the tile to begin next, by its byte. -/
theorem startOf_continues_iff {n next : Nat} {o : Option Nat} (starts : startOf n = some o) :
    (o = none ∨ o = some next) ↔ (n = 255 ∨ n = next) := by
  obtain ⟨tile, rfl⟩ | ⟨rfl, rfl⟩ := startOf_eq_some_iff.mp starts
  · have noContinue : n ≠ 255 := by omega
    simp [noContinue]
  · simp

/-- R138: the start tile, by its byte. -/
theorem Frame.startTile_of_startOf {n : Nat} {o : Option Nat} (starts : startOf n = some o) (f : Frame) :
    f.startTile o = if n ≤ 191 then n else if f.state = .held then f.nextUnsent else 0 := by
  obtain ⟨tile, rfl⟩ | ⟨rfl, rfl⟩ := startOf_eq_some_iff.mp starts
  · exact (if_pos tile).symm
  · rfl

theorem creditsOf_some {n : Nat} (h : 1 ≤ n ∧ n ≤ 32) : creditsOf n = some n :=
  if_pos h

theorem creditsOf_none {n : Nat} (h : ¬ (1 ≤ n ∧ n ≤ 32)) : creditsOf n = none :=
  if_neg h

/-- R137, R139: the tile on the line has begun. -/
theorem Transfer.begins_eq (t : Transfer) (unsent : Nat) :
    t.begins unsent = if t.onLine = none then unsent else unsent + 1 := by
  unfold Transfer.begins
  cases t.onLine <;> rfl

/-! ## The slot that is SENDING (R137) -/

theorem State.othersSending_iff (s : State) (i : Fin 6) :
    s.othersSending i = true ↔
      ∃ (j : Fin 6) (g : Frame), j ≠ i ∧ s.frames.slots.get j = some g ∧ g.state = .sending := by
  have sends (o : Option Frame) : FrameStore.slotIs (fun p => decide (p = .sending)) o = true ↔
      ∃ g, o = some g ∧ g.state = .sending := by
    cases o with
    | none => simp [FrameStore.slotIs]
    | some f => simp [FrameStore.slotIs]
  simp [State.othersSending, State.frameAt, sends]

/-! ## The grant by the slot's state (R137 to R139) -/

section Slot

variable {i : Fin 6} {f : Frame} {o : Option Nat} {credits : Nat} {r : Transfer} {s : State}

theorem State.grantNamed_wrongState (ready : f.state ≠ .ready) (held : f.state ≠ .held) (sent : f.state ≠ .sent)
    (sending : f.state ≠ .sending) : s.grantNamed i f o credits = s.refuse .wrongState := by
  unfold State.grantNamed
  cases state : f.state with
  | ready => exact absurd state ready
  | held => exact absurd state held
  | sent => exact absurd state sent
  | sending => exact absurd state sending
  | armed | exposing | reading | waiting | correcting => rfl

theorem State.grantNamed_busy (h : f.state = .ready ∨ f.state = .held ∨ f.state = .sent ∨ f.state = .sending)
    (others : s.othersSending i = true) : s.grantNamed i f o credits = s.refuse .busy := by
  unfold State.grantNamed
  rcases h with h | h | h | h <;> rw [h] <;> exact if_pos others

/-- R138: a transfer starts. -/
theorem State.grantNamed_starts (h : f.state = .ready ∨ f.state = .held ∨ f.state = .sent)
    (alone : ¬ s.othersSending i = true) :
    s.grantNamed i f o credits = State.done (.grant credits (f.startTile o)) { s with
      frames := { s.frames with
        slots := s.frames.slots.set i (some { f with state := .sending, nextUnsent := f.startTile o }) }
      transfer := some { slot := i, frame := f.number, credits := credits, onLine := none } } := by
  unfold State.grantNamed
  rcases h with h | h | h <;> rw [h] <;> exact if_neg alone

theorem State.grantNamed_sending (h : f.state = .sending) (alone : ¬ s.othersSending i = true) :
    s.grantNamed i f o credits = s.addCredits f o credits := by
  rw [State.grantNamed, h]
  exact if_neg alone

/-- R139: a transfer that goes on gets more credits. -/
theorem State.addCredits_continues (active : s.transfer = some r) (h : o = none ∨ o = some (r.begins f.nextUnsent)) :
    s.addCredits f o credits =
      State.done (.grant (addedCredits r.credits credits) f.nextUnsent)
        { s with transfer := some { r with credits := addedCredits r.credits credits } } := by
  rw [State.addCredits, active]
  exact if_pos h

theorem State.addCredits_badValue (active : s.transfer = some r)
    (h : ¬ (o = none ∨ o = some (r.begins f.nextUnsent))) : s.addCredits f o credits = s.refuse .badValue := by
  rw [State.addCredits, active]
  exact if_neg h

end Slot

/-! ## TRANSFER_GRANT -/

section Request

variable {tag n b0 b1 b2 b3 start cr : Byte} {i : Fin 6} {f : Frame} {o : Option Nat} {s : State}

theorem State.transferGrant_badValue
    (h : slotOf n.toNat = none ∨ startOf start.toNat = none ∨ creditsOf cr.toNat = none) :
    s.transferGrant [n, b0, b1, b2, b3, start, cr] = s.refuse .badValue := by
  rw [State.transferGrant, numberAt_one (k := 0) rfl, numberAt_one (k := 5) rfl, numberAt_one (k := 6) rfl]
  rcases h with h | h | h
  · rw [h]
  · rw [h]
    cases slotOf n.toNat <;> rfl
  · rw [h]
    cases slotOf n.toNat with
    | none => rfl
    | some i => cases startOf start.toNat <;> rfl

/-- R137: with legal values the frame named is looked up. -/
theorem State.transferGrant_legal (slot : n.toNat = i.val) (starts : startOf start.toNat = some o)
    (given : 1 ≤ cr.toNat ∧ cr.toNat ≤ 32) :
    s.transferGrant [n, b0, b1, b2, b3, start, cr] =
      (s.namedFrame i (le4 b0 b1 b2 b3)).elim (s.refuse .stale) fun f => s.grantNamed i f o cr.toNat := by
  rw [State.transferGrant, numberAt_one (k := 0) rfl, numberAt_one (k := 5) rfl, numberAt_one (k := 6) rfl, slot,
    slotOf_val, starts, creditsOf_some given, frameNumberOf_cons]
  dsimp only
  cases s.namedFrame i (le4 b0 b1 b2 b3) <;> rfl

theorem State.transferGrant_stale (slot : n.toNat = i.val) (starts : startOf start.toNat = some o)
    (given : 1 ≤ cr.toNat ∧ cr.toNat ≤ 32)
    (other : ∀ f, s.frames.slots.get i = some f → f.number ≠ le4 b0 b1 b2 b3) :
    s.transferGrant [n, b0, b1, b2, b3, start, cr] = s.refuse .stale := by
  rw [State.transferGrant_legal slot starts given, State.namedFrame_none other, Option.elim_none]

theorem State.transferGrant_named (slot : n.toNat = i.val) (starts : startOf start.toNat = some o)
    (given : 1 ≤ cr.toNat ∧ cr.toNat ≤ 32) (filled : s.frames.slots.get i = some f)
    (numbered : f.number = le4 b0 b1 b2 b3) :
    s.transferGrant [n, b0, b1, b2, b3, start, cr] = s.grantNamed i f o cr.toNat := by
  rw [State.transferGrant_legal slot starts given, State.namedFrame_some filled numbered, Option.elim_some]

/-- R1: STARTUP, DORMANT and WAKING refuse TRANSFER_GRANT. -/
theorem exec_transferGrant_screened {body : List Byte} (h : s.takes RequestKind.transferGrant.byte tag body)
    (screened : s.run.part.handles = false) :
    exec (.transferGrant tag body) s = .next (s.withRefusal .transferGrant tag .wrongState) :=
  Event.run_screened h (by decide)
    ((RequestKind.answeredIn_eq_handles (by decide) (by decide) (by decide) _).trans screened) _

theorem exec_transferGrant_refused {r : Reason} (h : s.handles .transferGrant tag [n, b0, b1, b2, b3, start, cr])
    (refuses : (s.updLine (LineState.take RequestKind.transferGrant.byte tag)).transferGrant
        [n, b0, b1, b2, b3, start, cr] =
      (s.updLine (LineState.take RequestKind.transferGrant.byte tag)).refuse r) :
    exec (.transferGrant tag [n, b0, b1, b2, b3, start, cr]) s = .next (s.withRefusal .transferGrant tag r) :=
  Event.run_refused h (by decide) rfl refuses

/-- R138, R139: a grant that is DONE changes the frame store and the transfer record, which have no part in what lies
between two events. -/
theorem exec_transferGrant_done {r : Result} {frames : FrameStore} {transfer : Option Transfer}
    (h : s.handles .transferGrant tag [n, b0, b1, b2, b3, start, cr])
    (answers : (s.updLine (LineState.take RequestKind.transferGrant.byte tag)).transferGrant
        [n, b0, b1, b2, b3, start, cr] =
      State.done r { s.updLine (LineState.take RequestKind.transferGrant.byte tag) with
        frames := frames, transfer := transfer }) :
    exec (.transferGrant tag [n, b0, b1, b2, b3, start, cr]) s =
      .next (State.withDone .transferGrant tag r { s with frames := frames, transfer := transfer }) :=
  Event.run_done (t := { s with frames := frames, transfer := transfer }) h (by decide) rfl h.1.1 answers

/-- R137: the first test. -/
theorem exec_transferGrant_badValue (h : s.handles .transferGrant tag [n, b0, b1, b2, b3, start, cr])
    (illegal : ¬ (n.toNat < 6 ∧ (start.toNat ≤ 191 ∨ start.toNat = 255) ∧ 1 ≤ cr.toNat ∧ cr.toNat ≤ 32)) :
    exec (.transferGrant tag [n, b0, b1, b2, b3, start, cr]) s =
      .next (s.withRefusal .transferGrant tag .badValue) := by
  refine exec_transferGrant_refused h (State.transferGrant_badValue ?_)
  rcases not_and_or.mp illegal with slot | rest
  · exact .inl (slotOf_above (Nat.not_lt.mp slot))
  · rcases not_and_or.mp rest with starts | given
    · exact .inr (.inl (startOf_eq_none starts))
    · exact .inr (.inr (creditsOf_none given))

end Request

/-- Settles O46: the screen and the five tests come in this order; a transfer starts by `State.grantNamed_starts` and
gets credits by `State.addCredits_continues`. -/
theorem transferGrantStartsOrAddsCredits : Obligations.TransferGrantStartsOrAddsCredits := by
  intro tag n b0 b1 b2 b3 start cr s c number legal no
  refine ⟨exec_transferGrant_screened, fun h => ⟨exec_transferGrant_badValue h, fun i slot values => ?_⟩⟩
  obtain ⟨-, startLegal, given⟩ := values
  obtain ⟨o, starts⟩ := startOf_isSome startLegal
  refine ⟨fun other => ?stale, fun f filled numbered => ?named⟩
  case stale => exact exec_transferGrant_refused h (State.transferGrant_stale slot starts given other)
  case named =>
    have named := State.transferGrant_named (s := s.updLine (LineState.take RequestKind.transferGrant.byte tag))
      slot starts given filled numbered
    have others_iff := State.othersSending_iff (s.updLine (LineState.take RequestKind.transferGrant.byte tag)) i
    refine ⟨fun ready held sent sending => ?wrongState, fun grants others => ?busy, fun delivered alone => ?starts,
      fun r sending alone active => ?adds⟩
    case wrongState =>
      exact exec_transferGrant_refused h (named.trans (State.grantNamed_wrongState ready held sent sending))
    case busy =>
      exact exec_transferGrant_refused h (named.trans (State.grantNamed_busy grants (others_iff.mpr others)))
    case starts =>
      have begun := named.trans (State.grantNamed_starts delivered (others_iff.not.mpr alone))
      rw [Frame.startTile_of_startOf starts] at begun
      exact exec_transferGrant_done h begun
    case adds =>
      have adds := named.trans (State.grantNamed_sending sending (others_iff.not.mpr alone))
      have continues_iff := startOf_continues_iff (next := r.begins f.nextUnsent) starts
      rw [← Transfer.begins_eq]
      refine ⟨fun continues => ?_, fun noContinue other => ?_⟩
      · exact exec_transferGrant_done h
          (adds.trans (State.addCredits_continues active (continues_iff.mpr continues)))
      · exact exec_transferGrant_refused h
          (adds.trans (State.addCredits_badValue active (continues_iff.not.mpr (not_or.mpr ⟨noContinue, other⟩))))

end Sys2Proof.Machine

/-! PROOFS. What the event of each command is, and the three statements of one step: the command at the front of the
queue, the part that has nothing to do, and the part after a power-on reset. -/

namespace Sys2Proof.Machine

/-! ## The event of each command -/

/-- The level a command puts on the input lines. -/
def levelOf : Instr → Pins → Pins
  | .quadratureChange a b _ => fun p => { p with phaseA := a, phaseB := b }
  | .wprotAsserted => fun p => { p with wprot := true }
  | .wprotReleased => fun p => { p with wprot := false }
  | .exclAsserted => fun p => { p with excl := true }
  | .exclRelease => fun p => { p with excl := false }
  | _ => id

/-- The steps of a command's event. POWER_ON_RESET and BROWNOUT are no events of a powered part. -/
def stepsOf : Instr → State → State
  | .powerOnReset | .brownout | .wprotReleased | .exclAsserted => id
  | .resetInput => State.softReset
  | .storeScanComplete => State.scanCompleted
  | .messageReceived bytes => fun s => bytes.foldl State.receiveByte s
  | .gapLimitExpiry => State.gapExpired
  | .unknownKind kind tag body => State.unknownKind kind tag body
  | .queueMessageStart => State.startMessage
  | .messageSent => State.messageSent
  | .tileStart => State.startTile
  | .tileMessageSent => State.tileSent
  | .identify tag body => State.request .identify tag body true fun s => s.done .identity
  | .status tag body => State.request .status tag body true fun s => s.done (.status s.statusReport)
  | .getParam tag body => State.request .getParam tag body true (State.getParam body)
  | .setParam tag body => State.request .setParam tag body true (State.setParam body)
  | .clearConditions tag body => State.request .clearConditions tag body true (State.clearConditions body)
  | .reset tag body => State.request .reset tag body true fun s => s.done .nothing
  | .runStart tag body => State.request .runStart tag body true (State.runStart body)
  | .runStop tag body => State.request .runStop tag body true State.runStop
  | .trigger tag body => State.request .trigger tag body true State.hostTrigger
  | .single tag body => State.request .single tag body true State.single
  | .park tag body => State.request .park tag body true State.park
  | .wake tag body => State.request .wake tag body true State.wake
  | .sleep tag body => State.request .sleep tag body true State.sleep
  | .intervalExpiry => State.intervalExpired
  | .silenceExpiry => State.silenceExpired
  | .wakeSettleExpiry => State.wakeSettled
  | .setPosition tag body => State.request .setPosition tag body true (State.setPosition body)
  | .quadratureChange a b time => State.quadrature a b time
  | .speedWindowExpiry => fun s =>
    s.updTravel (TravelState.windowExpired (s.param .countPitch) (s.param .speedWindow))
  | .stallExpiry => fun s => s.updTravel TravelState.stalled
  | .segmentEnable tag body => State.request .segmentSet tag body (codeNotOf [2, 3, 4] 1 body)
    (State.segmentSet (decide (actionOf body = 1)) Segment.enable body)
  | .segmentDisable tag body => State.request .segmentSet tag body (codeNotOf [1, 3, 4] 1 body)
    (State.segmentSet (decide (actionOf body = 2)) Segment.disable body)
  | .segmentAdmit tag body => State.request .segmentSet tag body (codeNotOf [1, 2, 4] 1 body)
    (State.segmentSet (decide (actionOf body = 3)) Segment.admitFaulted body)
  | .segmentCeiling tag body => State.request .segmentSet tag body (codeNotOf [1, 2, 3] 1 body)
    (State.segmentSet (decide (actionOf body = 4)) (Segment.putCeiling (numberAt body 2 1)) body)
  | .segmentReport tag body => State.request .segmentReport tag body true fun s =>
    s.done (.segments (Table.ofFn fun i => s.segmentReport i))
  | .strobeRequest => State.takeStrobeRequest
  | .exclRelease => State.exclusionReleased
  | .deferralTimerExpiry => State.deferralExpired
  | .midStrobe senses => State.midPoint senses
  | .strobeEnd => State.strobeEnded
  | .strobeGuardExpiry => State.guardExpired
  | .scanConversionEnd code celsius => State.scanEnded code celsius
  | .strobeConversionEnd code => State.strobeConversionEnded code
  | .monitorReport tag body => State.request .monitorReport tag body true fun s => s.done (.monitor s.monitor.report)
  | .sensorFrameStart => State.frameStarted
  | .sensorLine samples => State.lineReceived samples
  | .sensorFrameEnd => State.frameEnded
  | .readoutLimitExpiry => State.readoutExpired
  | .balanceHold tag body => State.request .balanceHold tag body true fun s =>
    (s.updBalance fun u => { u with state := .held }).done .nothing
  | .balanceRelease tag body => State.request .balanceRelease tag body true State.balanceRelease
  | .balanceRestart tag body => State.request .balanceRestart tag body true State.balanceRestart
  | .zoneReport tag body => State.request .zoneReport tag body true fun s => s.done (.zones s.balance.report)
  | .releaseFrame tag body => State.request .releaseFrame tag body true (State.releaseFrame body)
  | .slotReport tag body => State.request .slotReport tag body true fun s => s.done (.slots s.frames.report)
  | .tileCompletion => State.tileCompleted
  | .transferGrant tag body => State.request .transferGrant tag body true (State.transferGrant body)
  | .transferStopKeep tag body => State.request .transferStop tag body (codeNotOf [2] 5 body)
    (State.transferStop (decide (numberAt body 5 1 = 1)) false body)
  | .transferStopRelease tag body => State.request .transferStop tag body (codeNotOf [1] 5 body)
    (State.transferStop (decide (numberAt body 5 1 = 2)) true body)
  | .loadProfileById tag body => State.request .loadProfile tag body (codeNotOf [2] 0 body) (State.loadById body)
  | .loadProfileByBore tag body => State.request .loadProfile tag body (codeNotOf [1] 0 body) (State.loadByBore body)
  | .loadEnd decayed => State.loadEnded decayed
  | .storeStage tag body => State.request .storeStage tag body true (State.storeStage body)
  | .storePermit tag body => State.request .storePermit tag body true State.storePermit
  | .storeRevoke tag body => State.request .storeRevoke tag body true State.storeRevoke
  | .storeLockdown tag body => State.request .storeLockdown tag body true State.storeLockdown
  | .storeCommit tag body => State.request .storeCommit tag body true (State.storeCommit body)
  | .storeErase tag body => State.request .storeErase tag body true (State.storeErase body)
  | .storeProtect tag body => State.request .storeProtect tag body true (State.storeProtect body)
  | .storeRead tag body => State.request .storeRead tag body true (State.storeRead body)
  | .storeReadEnd => State.storeReadEnded
  | .storeDirectory tag body => State.request .storeDirectory tag body true fun s =>
    s.done (.directory s.directoryReport)
  | .erasingEnd unerased => State.erasingEnded unerased
  | .programmingEnd wrong => State.programmingEnded wrong
  | .verifyingEnd => State.verifyingEnded
  | .wprotAsserted => State.abandonOperation
  | .suspensionPoint => fun s => s.updStore StoreState.suspended
  | .syncByteReceived => fun s => s.receiveByte 0xA5

/-- Every command but POWER_ON_RESET and BROWNOUT is one event: its level on the input lines, then its steps. -/
theorem exec_eq_event {c : Instr} (notPower : c ≠ .powerOnReset) (notBrownout : c ≠ .brownout) (s : State) :
    exec c s = Event.runPin s (levelOf c) (stepsOf c) := by
  cases c with
  | powerOnReset => exact absurd rfl notPower
  | brownout => exact absurd rfl notBrownout
  | _ => rfl

/-- What a step can come to: nothing, one of the two power-on resets, a level alone while a brownout holds the part, or
a whole event of a powered part. -/
theorem step_cases {s t : State} (h : step s = .next t) {P : State → Prop} (idle : P s)
    (reset : ∀ (rest : List Instr) (power : Bool),
      P { State.powerOnReset { s with pending := rest } with powered := power })
    (level : ∀ (c : Instr) (rest : List Instr), s.powered = false →
      P (State.updPins { s with pending := rest } (levelOf c)))
    (event : ∀ (c : Instr) (rest : List Instr), s.powered = true →
      P (stepsOf c (State.updPins { s with pending := rest } (levelOf c))).ended) : P t := by
  unfold step at h
  split at h
  case h_1 => cases h; exact idle
  case h_2 c rest _ =>
    by_cases power : c = .powerOnReset
    · subst power; cases h; exact reset rest true
    by_cases brownout : c = .brownout
    · subst brownout; cases h; exact reset rest false
    rw [exec_eq_event power brownout, Event.runPin, Event.run] at h
    cases h
    by_cases powered : s.powered = true
    · rw [if_pos (by exact powered)]
      exact event c rest powered
    · rw [if_neg (by exact powered)]
      exact level c rest (Bool.not_eq_true _ ▸ powered)

/-! ## The queue of commands, and the part that has nothing to do -/

/-- Settles O1. -/
theorem stepRunsFrontCommand : Obligations.StepRunsFrontCommand := by
  intro c rest s front
  rw [step, front]

/-- Settles O18: the steps of an event are taken by a powered part alone. -/
theorem idleOrUnpoweredPartDoesNothing : Obligations.IdleOrUnpoweredPartDoesNothing := by
  refine ⟨fun s empty => by rw [step, empty], fun c s unpowered notPower notBrownout => ?_⟩
  refine ⟨levelOf c s.pins, ?_⟩
  rw [exec_eq_event notPower notBrownout, Event.runPin, Event.run, if_neg (by simp [unpowered])]
  rfl

/-! ## The invariants after a power-on reset -/

/-- The parameter table after a reset holds its values in their ranges (R168). -/
theorem ParamTable.resetValues_legal : ParamTable.resetValues.legal := by
  refine ⟨fun p => ?_, by decide⟩
  cases p <;> decide

/-- Settles O60. -/
theorem invariantsHoldAtReset : Obligations.InvariantsHoldAtReset := by
  refine ⟨?lines, State.reset_memories_wf, ParamTable.resetValues_legal, ?light, ?banks, ?writes⟩
  case lines => exact ⟨by decide, by decide, by decide, rfl⟩
  case light => exact ⟨rfl, rfl, rfl, rfl⟩
  case banks =>
    refine ⟨by decide, ⟨by decide, ?_⟩, ⟨by decide, by decide⟩, fun l loading => by cases loading⟩
    simp [State.reset, EngineState.atReset]
  case writes =>
    refine ⟨fun _ => ⟨rfl, rfl, rfl, rfl, fun d held => by cases held⟩, fun _ => rfl, fun o going => by cases going⟩

end Sys2Proof.Machine

/-! PROOFS. What the invariants of a step rest on: for each block the relation between it before and after an operation
that keeps the invariants, and the one relation on the whole part that every operation of an event is shown to meet. -/

namespace Sys2Proof.Machine

/-! ## The line: its queues within bounds, its conditions growing (R162, R164, R166) -/

/-- R163, R164: what waits for a place in the outbound queue is a reply. -/
def LineState.repliesWait (l : LineState) : Prop :=
  ∀ (h : InHand) (m : OutMessage), l.inHand = some h → h.wait = .place m → m.isNotice = false

/-- R162, R164: at most four messages inbound and sixteen outbound, at most fourteen of them notices, and a reply in
what waits for room. -/
def LineState.within (l : LineState) : Prop :=
  l.inbound.length ≤ 4 ∧ l.outbound.length ≤ 16 ∧ (l.outbound.filter OutMessage.isNotice).length ≤ 14 ∧ l.repliesWait

/-- What every operation but a reset, SET_PARAM and CLEAR_CONDITIONS makes of the line: conditions are only added, the
parameters stay, and the queues stay within their bounds. -/
structure LineState.Grows (l m : LineState) : Prop where
  conditions : ∀ d : Condition, d.isIn l.conditions = true → d.isIn m.conditions = true
  params : m.params = l.params
  within : l.within → m.within

/-- A line with the conditions, the parameters, the queues and the request in hand of another. -/
theorem LineState.Grows.of_same {l m : LineState} (conditions : m.conditions = l.conditions)
    (params : m.params = l.params) (inbound : m.inbound = l.inbound) (outbound : m.outbound = l.outbound)
    (inHand : m.inHand = l.inHand) : l.Grows m := by
  refine ⟨fun d h => conditions ▸ h, params, fun ⟨bounded, queued, notices, waits⟩ => ?_⟩
  refine ⟨inbound ▸ bounded, outbound ▸ queued, ?_, fun h r stands => waits h r (inHand ▸ stands)⟩
  rw [outbound]
  exact notices

theorem LineState.Grows.trans {l m n : LineState} (h : l.Grows m) (g : m.Grows n) : l.Grows n :=
  ⟨fun d hd => g.conditions d (h.conditions d hd), g.params.trans h.params, fun hl => g.within (h.within hl)⟩

theorem Condition.isIn_addTo_of_isIn {c d : Condition} {set : BitVec 20} (h : d.isIn set = true) :
    d.isIn (c.addTo set) = true := by
  simp only [Condition.isIn, Condition.addTo, BitVec.getLsbD_or, Bool.or_eq_true]
  exact .inl h

theorem LineState.grows_raise (c : Condition) (l : LineState) : l.Grows (l.raise c) := by
  unfold LineState.raise
  split
  · exact .of_same rfl rfl rfl rfl rfl
  · exact ⟨fun d => Condition.isIn_addTo_of_isIn, rfl, id⟩

/-- The request in hand replaced by one that waits for no place, or for that of a reply. -/
theorem LineState.grows_inHand {l : LineState} {o : Option InHand}
    (waits : ∀ (h : InHand) (m : OutMessage), o = some h → h.wait = .place m → m.isNotice = false) :
    l.Grows { l with inHand := o } :=
  ⟨fun _ => id, rfl, fun ⟨inbound, outbound, notices, _⟩ => ⟨inbound, outbound, notices, waits⟩⟩

/-- R164: a reply is placed when the queue holds fewer than sixteen messages. -/
theorem LineState.grows_queued {m : OutMessage} (reply : m.isNotice = false) {l : LineState}
    (room : l.outbound.length < 16) : l.Grows { l with outbound := l.outbound ++ [m] } := by
  refine ⟨fun _ => id, rfl, fun ⟨inbound, _, notices, waits⟩ => ⟨inbound, ?_, ?_, waits⟩⟩
  · rw [List.length_append]
    exact room
  · rwa [List.filter_append, List.filter_cons_of_neg (by simp [reply]), List.filter_nil, List.append_nil]

/-- R164: a reply is placed when the queue holds fewer than sixteen messages. -/
theorem LineState.grows_place {m : OutMessage} (reply : m.isNotice = false) (h : InHand) (l : LineState) :
    l.Grows (l.place h m) := by
  unfold LineState.place
  split
  case isTrue room =>
    refine (LineState.grows_queued reply room).trans (LineState.grows_inHand fun g n stands waits => ?_)
    split at stands <;> cases stands
    cases waits
  case isFalse =>
    refine LineState.grows_inHand fun g n stands waits => ?_
    cases stands
    cases waits
    exact reply

theorem LineState.grows_answer (body : ReplyBody) (l : LineState) : l.Grows (l.answer body) := by
  unfold LineState.answer
  split
  · exact LineState.grows_place rfl _ l
  · exact .of_same rfl rfl rfl rfl rfl

/-- R164: a notice is placed when the queue holds fewer than fourteen messages. -/
theorem LineState.grows_placeNotice (n : Notice) (l : LineState) : l.Grows (l.placeNotice n) := by
  unfold LineState.placeNotice
  split
  case isTrue room =>
    have fewer : (l.outbound.filter OutMessage.isNotice).length < 14 :=
      Nat.lt_of_le_of_lt (List.length_filter_le _ _) room
    refine ⟨fun _ => id, rfl, fun ⟨inbound, _, _, waits⟩ => ⟨inbound, ?_, ?_, waits⟩⟩
    · rw [List.length_append]
      exact Nat.le_trans room (by decide)
    · rw [List.filter_append, List.length_append]
      exact fewer
  case isFalse => exact LineState.grows_raise _ l

theorem LineState.grows_flush (l : LineState) : l.Grows l.flush := by
  unfold LineState.flush
  refine List.foldlRecOn (motive := fun m => l.Grows m) _ _ (.of_same rfl rfl rfl rfl rfl) fun m h n _ => ?_
  exact h.trans (LineState.grows_placeNotice n m)

/-- NOTICE_LOST queues no notice, so none is left to place at the end of an event. -/
theorem LineState.flush_staged (l : LineState) : l.flush.staged = [] := by
  unfold LineState.flush
  refine List.foldlRecOn (motive := fun m : LineState => m.staged = []) _ _ rfl fun m h n _ => ?_
  unfold LineState.placeNotice LineState.raise
  split
  · exact h
  · split
    · exact h
    · simpa using h

theorem LineState.grows_take (kind tag : Byte) (l : LineState) : l.Grows (l.take kind tag) := by
  refine ⟨fun _ => id, rfl, fun ⟨inbound, outbound, notices, _⟩ => ⟨?_, outbound, notices, fun h m stands waits => ?_⟩⟩
  · exact Nat.le_trans (List.length_tail ▸ Nat.sub_le _ _) inbound
  · cases stands
    cases waits

theorem LineState.grows_hold {w : HandWait} (holds : ∀ m, w ≠ .place m) (l : LineState) : l.Grows (l.hold w) := by
  refine LineState.grows_inHand fun h m stands waits => ?_
  obtain ⟨g, _, rfl⟩ := Option.map_eq_some_iff.mp stands
  exact absurd waits (holds m)

/-- R162: a message joins the inbound buffer while it holds fewer than four. -/
theorem LineState.grows_offer (m : Message) (l : LineState) : l.Grows (l.offer m) := by
  unfold LineState.offer
  split
  case isTrue room =>
    refine ⟨fun _ => id, rfl, fun ⟨_, outbound⟩ => ⟨?_, outbound⟩⟩
    rw [List.length_append]
    exact room
  case isFalse => exact LineState.grows_raise _ l

/-! ## The ring: its light, and what is deferred (R55, R64, R67) -/

/-- The light of the ring matches its strobe record. -/
def RingState.matched (r : RingState) : Prop :=
  match r.strobe with
  | some x => r.lit = true ∧ r.expose = x.isCapture ∧ r.drives = x.levels ∧ ∃ g, r.guard = some g ∧ g ≤ 5000
  | none => r.lit = false ∧ r.expose = false ∧ r.drives = Table.fill 12 0 ∧ r.guard = none

theorem State.lightMatches_iff (s : State) : s.lightMatches ↔ s.ring.matched :=
  Iff.rfl

/-- What an operation makes of the ring: its light stays matched, and what it defers anew is a capture. -/
structure RingState.Follows (r q : RingState) : Prop where
  light : r.matched → q.matched
  deferral : ∀ d, q.deferral = some d → r.deferral = some d ∨ ∃ i, d.target = .capture i

/-- A ring with the light of another, whose deferral it keeps or drops. -/
theorem RingState.Follows.of_same {r q : RingState} (strobe : q.strobe = r.strobe) (guard : q.guard = r.guard)
    (drives : q.drives = r.drives) (lit : q.lit = r.lit) (expose : q.expose = r.expose)
    (deferral : q.deferral = r.deferral ∨ q.deferral = none) : r.Follows q := by
  constructor
  · unfold RingState.matched
    rw [strobe, guard, drives, lit, expose]
    exact id
  · intro d held
    rcases deferral with same | dropped
    · exact .inl (same ▸ held)
    · rw [dropped] at held
      cases held

theorem RingState.follows_darken (r : RingState) : r.Follows r.darken :=
  ⟨fun _ => ⟨rfl, rfl, rfl, rfl⟩, fun _ => .inl⟩

theorem guardTime_le (d : Nat) : guardTime d ≤ 5000 :=
  Nat.min_le_left _ _

theorem RingState.follows_fire (i : Fin 6) (d : Nat) (levels : Table 12 FormedLevel) (r : RingState) :
    r.Follows (r.fire i d levels) :=
  ⟨fun _ => ⟨rfl, rfl, rfl, _, rfl, guardTime_le d⟩, fun _ held => by cases held⟩

theorem RingState.follows_firePulse (i : Fin 12) (r : RingState) : r.Follows (r.firePulse i) :=
  ⟨fun _ => ⟨rfl, rfl, rfl, _, rfl, by decide⟩, fun _ held => by cases held⟩

/-! ## The engine: its banks (R122, R126, R127) -/

/-- Exactly one bank is CURRENT, and each bank holds what its state says. -/
def EngineState.ordered (e : EngineState) : Prop :=
  (e.bankA.state = .current ↔ e.bankB.state ≠ .current) ∧ e.bankA.legal ∧ e.bankB.legal

/-- What an operation makes of the banks: they stay ordered, and a load in progress keeps its bank LOADING. -/
structure EngineState.Follows (e g : EngineState) : Prop where
  ordered : e.ordered → g.ordered
  loading : e.ordered → ∀ w, (e.bank w).state = .loading → (g.bank w).state = .loading

theorem EngineState.Follows.refl (e : EngineState) : e.Follows e :=
  ⟨id, fun _ _ => id⟩

theorem EngineState.Follows.trans {e g k : EngineState} (h : e.Follows g) (i : g.Follows k) : e.Follows k :=
  ⟨fun o => i.ordered (h.ordered o), fun o w l => i.loading (h.ordered o) w (h.loading o w l)⟩

/-- What replaces a bank record without a change of its state, its profile id and its contents. -/
theorem EngineState.follows_setBank {e : EngineState} {w : BankId} {k : Bank} (state : k.state = (e.bank w).state)
    (profile : k.profileId = (e.bank w).profileId) (contents : k.contents = (e.bank w).contents) :
    e.Follows (e.setBank w k) := by
  have legal : k.legal ↔ (e.bank w).legal := by
    unfold Bank.legal
    rw [state, profile, contents]
  cases w
  · simp only [EngineState.bank] at state legal
    constructor
    · simp only [EngineState.ordered, EngineState.setBank, state, legal]
      exact id
    · intro _ w
      cases w
      · exact fun l => state.trans l
      · exact id
  · simp only [EngineState.bank] at state legal
    constructor
    · simp only [EngineState.ordered, EngineState.setBank, state, legal]
      exact id
    · intro _ w
      cases w
      · exact id
      · exact fun l => state.trans l

theorem EngineState.follows_addReference (w : BankId) (e : EngineState) : e.Follows (e.addReference w) :=
  EngineState.follows_setBank rfl rfl rfl

theorem Bank.none_legal : Bank.none.legal :=
  ⟨by decide, by decide⟩

/-- An EMPTY bank in the place of one that is neither CURRENT nor LOADING. -/
theorem EngineState.follows_emptied {e : EngineState} {w : BankId} (notCurrent : (e.bank w).state ≠ .current)
    (notLoading : (e.bank w).state ≠ .loading) : e.Follows (e.setBank w Bank.none) := by
  cases w
  · constructor
    · rintro ⟨one, _, legal⟩
      refine ⟨?_, Bank.none_legal, legal⟩
      have other : e.bankB.state = .current := by
        by_contra absent
        exact notCurrent (one.mpr absent)
      simp [EngineState.setBank, Bank.none, other]
    · intro _ w loading
      cases w
      · exact absurd loading notLoading
      · exact loading
  · constructor
    · rintro ⟨one, legal, _⟩
      refine ⟨?_, legal, Bank.none_legal⟩
      simpa [EngineState.setBank, Bank.none] using one.mpr notCurrent
    · intro _ w loading
      cases w
      · exact loading
      · exact absurd loading notLoading

/-- R127, R126: a reference ends, and a RETIRING bank without references becomes EMPTY. -/
theorem EngineState.follows_endReference (w : BankId) (e : EngineState) : e.Follows (e.endReference w) := by
  unfold EngineState.endReference Bank.settled
  split
  case isTrue retired =>
    have state : (e.bank w).state = .retiring := retired.1
    exact EngineState.follows_emptied (by simp [state]) (by simp [state])
  case isFalse => exact EngineState.follows_setBank rfl rfl rfl

theorem Bank.legal_current {k : Bank} (h : k.legal) (loaded : k.state = .loaded) :
    Bank.legal { k with state := .current } := by
  simpa [Bank.legal, loaded] using h

theorem Bank.legal_retired {k : Bank} (h : k.legal) (current : k.state = .current) :
    (Bank.settled { k with state := .retiring }).legal ∧
      (Bank.settled { k with state := .retiring }).state ≠ .current := by
  unfold Bank.settled
  split
  · exact ⟨Bank.none_legal, by decide⟩
  · refine ⟨?_, fun still => by cases still⟩
    simpa [Bank.legal, current] using h

/-- R126: the bank that is not CURRENT is LOADED, and becomes CURRENT. -/
theorem EngineState.follows_swap {e : EngineState} (loaded : (e.bank e.current.other).state = .loaded) :
    e.Follows (e.swap e.current.other) := by
  by_cases current : e.bankB.state = .current
  · rw [EngineState.current_other, if_pos current] at loaded ⊢
    constructor
    · rintro ⟨_, legalA, legalB⟩
      obtain ⟨legal, other⟩ := Bank.legal_retired legalB current
      exact ⟨⟨fun _ => other, fun _ => rfl⟩, Bank.legal_current legalA loaded, legal⟩
    · intro _ w loading
      cases w
      · simp [loaded] at loading
      · simp [EngineState.bank, current] at loading
  · rw [EngineState.current_other, if_neg current] at loaded ⊢
    constructor
    · rintro ⟨one, legalA, legalB⟩
      obtain ⟨legal, other⟩ := Bank.legal_retired legalA (one.mpr current)
      exact ⟨⟨fun still => absurd still other, fun still => absurd rfl still⟩, legal, Bank.legal_current legalB loaded⟩
    · rintro ⟨one, _, _⟩ w loading
      cases w
      · simp [EngineState.bank, one.mpr current] at loading
      · simp [loaded] at loading

/-! ## The store: its memories, its load, and what it may write (R147, R151, R152) -/

/-- The staging buffer and every area are in the one canonical form (log 6). -/
def StoreState.canonical (t : StoreState) : Prop :=
  t.staging.wf = true ∧ ∀ i : Fin 16, (t.areas.get i).mem.wf = true

/-- What an operation makes of the store: its memories stay canonical, no load begins, the scan neither begins nor ends,
and an operation stays what it was, in a later phase or at a later area. -/
structure StoreState.Follows (t u : StoreState) : Prop where
  canonical : t.canonical → u.canonical
  load : ∀ l, u.load = some l → t.load = some l
  scanning : u.scanning = t.scanning
  writes : ∀ o, u.operation = some o → ∃ p, t.operation = some p ∧
    (o.phase ≠ .verifying → p.phase ≠ .verifying ∧ u.lockdown = t.lockdown ∧ (t.mayWrite p.kind → u.mayWrite o.kind))

theorem StoreState.Follows.refl (t : StoreState) : t.Follows t :=
  ⟨id, fun _ => id, rfl, fun o going => ⟨o, going, fun phase => ⟨phase, rfl, id⟩⟩⟩

theorem StoreState.Follows.trans {t u v : StoreState} (h : t.Follows u) (g : u.Follows v) : t.Follows v := by
  refine ⟨fun c => g.canonical (h.canonical c), fun l held => h.load l (g.load l held), g.scanning.trans h.scanning,
    fun o going => ?_⟩
  obtain ⟨p, goes, later⟩ := g.writes o going
  obtain ⟨q, went, before⟩ := h.writes p goes
  refine ⟨q, went, fun phase => ?_⟩
  obtain ⟨phaseP, lockP, mayP⟩ := later phase
  obtain ⟨phaseQ, lockQ, mayQ⟩ := before phaseP
  exact ⟨phaseQ, lockP.trans lockQ, fun may => mayP (mayQ may)⟩

/-- A store with the memories of another, whose load and operation it keeps or drops. -/
theorem StoreState.Follows.of_same {t u : StoreState} (staging : u.staging = t.staging) (areas : u.areas = t.areas)
    (load : u.load = t.load ∨ u.load = none) (scanning : u.scanning = t.scanning)
    (operation : u.operation = none ∨
      u.operation = t.operation ∧ u.lockdown = t.lockdown ∧ u.protectSet = t.protectSet) : t.Follows u := by
  refine ⟨fun h => ?_, fun l held => ?_, scanning, fun o going => ?_⟩
  · unfold StoreState.canonical
    rw [staging, areas]
    exact h
  · rcases load with same | dropped
    · exact same ▸ held
    · simp [dropped] at held
  · rcases operation with dropped | ⟨same, lock, set⟩
    · simp [dropped] at going
    · refine ⟨o, same ▸ going, fun phase => ⟨phase, lock, ?_⟩⟩
      unfold StoreState.mayWrite StoreState.isProtected
      rw [set]
      exact id

/-- An operation of the same kind, in the same phase. -/
theorem StoreState.follows_mapOperation {t u : StoreState} {f : Operation → Operation}
    (kind : ∀ o, (f o).kind = o.kind) (phase : ∀ o, (f o).phase = o.phase)
    (rest : t.Follows { u with operation := t.operation }) (operation : u.operation = t.operation.map f) :
    t.Follows u := by
  refine ⟨rest.canonical, rest.load, rest.scanning, fun o going => ?_⟩
  obtain ⟨p, goes, rfl⟩ := Option.map_eq_some_iff.mp (operation ▸ going)
  obtain ⟨q, same, later⟩ := rest.writes p goes
  refine ⟨q, same, fun running => ?_⟩
  obtain ⟨phaseQ, lock, may⟩ := later (phase p ▸ running)
  refine ⟨phaseQ, lock, fun allowed => ?_⟩
  rw [kind]
  exact may allowed

end Sys2Proof.Machine

/-! PROOFS. Every operation of an event keeps the invariants: one relation between the part before an event and after
some of its operations, and for each shared operation that it goes on from there. -/

namespace Sys2Proof.Machine

/-! ## What leaves the part state -/

theorem State.abandon_part (i : Fin 6) (s : State) : (s.abandon i).run.part = s.run.part := by
  unfold State.abandon
  split
  · split
    · simp [RunState.countSkipped]
    · rfl
  · rfl

theorem State.abandonArmed_part (s : State) : s.abandonArmed.run.part = s.run.part := by
  unfold State.abandonArmed
  split
  · exact State.abandon_part _ s
  · rfl

theorem State.stopRun_part (e : EndReason) (s : State) : (s.stopRun e).run.part = s.run.part :=
  rfl

/-! ## The relation -/

/-- R3: the run controller before the end of the scan of a reset. -/
def RunState.starting (r : RunState) : Prop :=
  r.part = .startup ∧ r.selfTest = none ∧ r.wakeTimer = none

/-- What `State.writesAllowed` says of a powered part. -/
def State.writesHeld (s : State) : Prop :=
  s.scanIsFirst ∧ ∀ o, s.store.operation = some o → o.phase ≠ .verifying →
    s.store.lockdown = false ∧ s.pins.wprot = false ∧ s.store.mayWrite o.kind

/-- The part `t` keeps the six invariants of the part `s` it comes from. -/
structure State.Preserves (s t : State) : Prop where
  powered : t.powered = s.powered
  within : s.line.within → t.line.within
  legal : s.line.params.legal → t.line.params.legal
  canonical : s.store.canonical → t.store.canonical
  light : s.ring.matched → t.ring.matched
  banks : s.banksOrdered → t.banksOrdered
  writes : s.writesHeld → t.writesHeld

/-- The part `t` keeps the six invariants of `s`, and every condition that is set. -/
structure State.Keeps (s t : State) : Prop extends State.Preserves s t where
  conditions : ∀ d : Condition, d.isIn s.line.conditions = true → d.isIn t.line.conditions = true

theorem State.Keeps.refl (s : State) : s.Keeps s :=
  ⟨⟨rfl, id, id, id, id, id, id⟩, fun _ => id⟩

theorem State.scanIsFirst_of_blocks {t u : State} (run : t.run.starting → u.run.starting)
    (ring : t.ring.Follows u.ring) (store : t.store.Follows u.store) (h : t.scanIsFirst) : u.scanIsFirst := by
  intro scanning
  obtain ⟨part, test, timer, idle, held⟩ := h (store.scanning ▸ scanning)
  obtain ⟨part, test, timer⟩ := run ⟨part, test, timer⟩
  refine ⟨part, test, timer, ?_, fun d deferred => ?_⟩
  · cases going : u.store.operation with
    | none => rfl
    | some o =>
      obtain ⟨p, goes, _⟩ := store.writes o going
      simp [idle] at goes
  · exact (ring.deferral d deferred).elim (held d) id

theorem State.banksOrdered_of_blocks {t u : State} (engine : t.engine.Follows u.engine)
    (load : ∀ l, u.store.load = some l → t.store.load = some l) (h : t.banksOrdered) : u.banksOrdered := by
  obtain ⟨one, legalA, legalB, loading⟩ := h
  have ordered : t.engine.ordered := ⟨one, legalA, legalB⟩
  obtain ⟨one, legalA, legalB⟩ := engine.ordered ordered
  exact ⟨one, legalA, legalB, fun l held => engine.loading ordered l.bank (loading l (load l held))⟩

/-- The invariants are kept block by block. -/
theorem State.Keeps.of_blocks {s t u : State} (h : s.Keeps t) (line : t.line.Grows u.line)
    (run : t.run.starting → u.run.starting) (ring : t.ring.Follows u.ring) (engine : t.engine.Follows u.engine)
    (store : t.store.Follows u.store) (pins : u.pins.wprot = true → t.pins.wprot = true)
    (powered : u.powered = t.powered) : s.Keeps u where
  powered := powered.trans h.powered
  within b := line.within (h.within b)
  legal b := line.params ▸ h.legal b
  canonical b := store.canonical (h.canonical b)
  light b := ring.light (h.light b)
  banks b := State.banksOrdered_of_blocks engine store.load (h.banks b)
  writes b := by
    obtain ⟨first, allowed⟩ := h.writes b
    refine ⟨State.scanIsFirst_of_blocks run ring store first, fun o going phase => ?_⟩
    obtain ⟨p, goes, later⟩ := store.writes o going
    obtain ⟨phaseP, lock, may⟩ := later phase
    obtain ⟨unlocked, released, mayP⟩ := allowed p goes phaseP
    exact ⟨lock.trans unlocked, Bool.eq_false_iff.mpr fun asserted => by simp [pins asserted] at released, may mayP⟩
  conditions d b := line.conditions d (h.conditions d b)

/-- The blocks that no invariant speaks of may become anything. -/
theorem State.Keeps.same {s t u : State} (h : s.Keeps t)
    (same : u.line = t.line ∧ u.run = t.run ∧ u.ring = t.ring ∧ u.engine = t.engine ∧ u.store = t.store ∧
      u.pins = t.pins ∧ u.powered = t.powered) : s.Keeps u := by
  obtain ⟨line, run, ring, engine, store, pins, powered⟩ := same
  refine h.of_blocks ?_ ?_ ?_ ?_ ?_ ?_ powered
  · exact line ▸ .of_same rfl rfl rfl rfl rfl
  · exact run ▸ id
  · exact ring ▸ .of_same rfl rfl rfl rfl rfl (.inl rfl)
  · exact engine ▸ .refl _
  · exact store ▸ .refl _
  · exact pins ▸ id

namespace State.Keeps

section

variable {s t : State} (h : s.Keeps t)
include h

theorem updLine {f : LineState → LineState} (grows : t.line.Grows (f t.line)) : s.Keeps (t.updLine f) :=
  h.of_blocks grows id (.of_same rfl rfl rfl rfl rfl (.inl rfl)) (.refl _) (.refl _) id rfl

/-- The run controller changed, but for what a part in STARTUP before the end of the scan holds. -/
theorem updRun {f : RunState → RunState} (keeps : t.run.starting → (f t.run).starting) : s.Keeps (t.updRun f) :=
  h.of_blocks (.of_same rfl rfl rfl rfl rfl) keeps (.of_same rfl rfl rfl rfl rfl (.inl rfl)) (.refl _) (.refl _) id rfl

/-- The run controller changed in a part that is no longer in STARTUP. -/
theorem updRun_awake {f : RunState → RunState} (awake : t.run.part ≠ .startup) : s.Keeps (t.updRun f) :=
  h.updRun fun starting => absurd starting.1 awake

theorem updRing {f : RingState → RingState} (follows : t.ring.Follows (f t.ring)) : s.Keeps (t.updRing f) :=
  h.of_blocks (.of_same rfl rfl rfl rfl rfl) id follows (.refl _) (.refl _) id rfl

theorem updEngine {f : EngineState → EngineState} (follows : t.engine.Follows (f t.engine)) :
    s.Keeps (t.updEngine f) :=
  h.of_blocks (.of_same rfl rfl rfl rfl rfl) id (.of_same rfl rfl rfl rfl rfl (.inl rfl)) follows (.refl _) id rfl

theorem updStore {f : StoreState → StoreState} (follows : t.store.Follows (f t.store)) : s.Keeps (t.updStore f) :=
  h.of_blocks (.of_same rfl rfl rfl rfl rfl) id (.of_same rfl rfl rfl rfl rfl (.inl rfl)) (.refl _) follows id rfl

theorem updTravel (f : TravelState → TravelState) : s.Keeps (t.updTravel f) := h.same (by simp)
theorem updMonitor (f : MonitorState → MonitorState) : s.Keeps (t.updMonitor f) := h.same (by simp)
theorem updBalance (f : BalanceUnit → BalanceUnit) : s.Keeps (t.updBalance f) := h.same (by simp)
theorem updFrames (f : FrameStore → FrameStore) : s.Keeps (t.updFrames f) := h.same (by simp)
theorem putTransfer (o : Option Transfer) : s.Keeps (t.putTransfer o) := h.same (by simp)

/-- R3: the run controller and the ring changed once the scan is over, or in a part whose scan is not first. -/
theorem updRun_past {f : RunState → RunState} (past : s.writesHeld → t.store.scanning = false) :
    s.Keeps (t.updRun f) where
  powered := h.powered
  within := h.within
  legal := h.legal
  canonical := h.canonical
  light := h.light
  banks := h.banks
  writes b := ⟨fun scanning => absurd scanning (by rw [State.updRun_store, past b]; decide), (h.writes b).2⟩
  conditions := h.conditions

theorem updRing_past {f : RingState → RingState} (past : s.writesHeld → t.store.scanning = false)
    (light : t.ring.matched → (f t.ring).matched) : s.Keeps (t.updRing f) where
  powered := h.powered
  within := h.within
  legal := h.legal
  canonical := h.canonical
  light b := light (h.light b)
  banks := h.banks
  writes b := ⟨fun scanning => absurd scanning (by rw [State.updRing_store, past b]; decide), (h.writes b).2⟩
  conditions := h.conditions

/-! ## Conditions, notices, replies -/

theorem raise (c : Condition) : s.Keeps (t.raise c) := h.updLine (LineState.grows_raise c _)
theorem notify (n : Notice) : s.Keeps (t.notify n) := h.updLine (.of_same rfl rfl rfl rfl rfl)
theorem answer (b : ReplyBody) : s.Keeps (t.answer b) := h.updLine (LineState.grows_answer b _)
theorem done (r : Result) : s.Keeps (t.done r) := h.answer _
theorem taken (r : Result) : s.Keeps (t.taken r) := h.answer _
theorem refuse (r : Reason) : s.Keeps (t.refuse r) := h.answer _
theorem ended : s.Keeps t.ended := h.updLine (LineState.grows_flush _)
theorem hold {w : HandWait} (holds : ∀ m, w ≠ .place m) : s.Keeps (t.updLine (LineState.hold w)) :=
  h.updLine (LineState.grows_hold holds _)

theorem request {kind : RequestKind} {tag : Byte} {body : List Byte} {fits : Bool} {rule : State → State}
    (ruled : ∀ u, s.Keeps u → kind.answeredIn u.run.part = true → s.Keeps (rule u)) :
    s.Keeps (t.request kind tag body fits rule) := by
  have took : s.Keeps (t.updLine (LineState.take kind.byte tag)) := h.updLine (LineState.grows_take _ _ _)
  unfold State.request
  split
  · dsimp only
    split
    case isTrue answered =>
      split
      · exact ruled _ took answered
      · exact took.refuse _
    case isFalse => exact took.refuse _
  · exact h

/-- A request of a kind that STARTUP does not answer. -/
theorem request_awake {kind : RequestKind} {tag : Byte} {body : List Byte} {fits : Bool} {rule : State → State}
    (screened : kind.answeredIn .startup = false)
    (ruled : ∀ u, s.Keeps u → u.run.part ≠ .startup → s.Keeps (rule u)) :
    s.Keeps (t.request kind tag body fits rule) :=
  h.request fun u keeps answered => ruled u keeps fun startup => by simp [startup, screened] at answered

theorem unknownKind (kind tag : Byte) (body : List Byte) : s.Keeps (t.unknownKind kind tag body) := by
  unfold State.unknownKind
  split
  · exact (h.updLine (LineState.grows_take _ _ _)).answer _
  · exact h

/-! ## Slots and banks -/

theorem putFrame (i : Fin 6) (o : Option Frame) : s.Keeps (t.putFrame i o) := h.same (by simp)
theorem modifyFrame (i : Fin 6) (g : Frame → Frame) : s.Keeps (t.modifyFrame i g) := h.same (by simp)
theorem enterCold : s.Keeps t.enterCold := h.same (by simp)

theorem swapIfDue : s.Keeps t.swapIfDue := by
  unfold State.swapIfDue
  dsimp only
  split
  case isTrue due => exact (h.updEngine (EngineState.follows_swap due.1)).enterCold.updBalance _
  case isFalse => exact h

theorem endReference (w : BankId) : s.Keeps (t.updEngine (EngineState.endReference w)) :=
  h.updEngine (EngineState.follows_endReference w _)

theorem discard (i : Fin 6) : s.Keeps (t.discard i) := by
  unfold State.discard
  split
  · dsimp only
    split
    · exact (h.putFrame i none).endReference _
    · exact h.putFrame i none
  · exact h

theorem putHand (o : Option (Fin 6 × Nat)) : s.Keeps (t.updEngine fun e => { e with hand := o }) :=
  h.updEngine ⟨id, fun _ w => by cases w <;> exact id⟩

theorem engineTake : s.Keeps t.engineTake := by
  unfold State.engineTake
  split
  · split
    · exact h
    · exact ((h.updFrames _).modifyFrame _ _).putHand _
  · exact h

/-! ## Runs -/

theorem countSkipped (n : Option Nat) : s.Keeps (t.updRun (RunState.countSkipped n)) := h.updRun id
theorem countCaptured (n : Option Nat) : s.Keeps (t.updRun (RunState.countCaptured n)) := h.updRun id

theorem closeIfIdle : s.Keeps t.closeIfIdle := by
  unfold State.closeIfIdle
  split
  case isTrue due =>
    have awake : t.run.part ≠ .startup := by rw [due.1]; decide
    split
    · exact ((h.updRun_awake awake).notify _).updRun_awake (by exact awake)
    · exact h.updRun_awake awake
  case isFalse => exact h

theorem dropDeferral : s.Keeps (t.updRing fun r => { r with deferral := none }) :=
  h.updRing (.of_same rfl rfl rfl rfl rfl (.inr rfl))

theorem abandon (i : Fin 6) : s.Keeps (t.abandon i) := by
  unfold State.abandon
  split
  · split
    · exact ((h.dropDeferral.discard i).countSkipped _).swapIfDue
    · exact h
  · exact h

theorem abandonArmed : s.Keeps t.abandonArmed := by
  unfold State.abandonArmed
  split
  · exact h.abandon _
  · exact h

theorem stopRun (e : EndReason) : s.Keeps (t.stopRun e) := by
  unfold State.stopRun
  exact State.Keeps.updTravel (h.updRun id) _

theorem leaveRunning (e : EndReason) (running : t.run.part = .running) : s.Keeps (t.leaveRunning e) := by
  refine ((h.stopRun e).abandonArmed).updRun_awake ?_
  rw [State.abandonArmed_part, State.stopRun_part, running]
  decide

theorem endRun (e : EndReason) : s.Keeps (t.endRun e) := by
  unfold State.endRun
  split
  case isTrue running => exact (h.leaveRunning e running).closeIfIdle
  case isFalse => exact h

/-! ## Allocation and triggers -/

theorem putRequest (o : Option (Fin 6)) : s.Keeps (t.updRing fun r => { r with request := o }) :=
  h.updRing (.of_same rfl rfl rfl rfl rfl (.inl rfl))

theorem fillSlot (i : Fin 6) (n : Option Nat) (x : Trigger) : s.Keeps (t.fillSlot i n x) := by
  unfold State.fillSlot
  exact (((h.putFrame i _).updFrames _).updEngine (EngineState.follows_addReference _ _)).putRequest _

theorem withdraw (i : Fin 6) : s.Keeps (t.withdraw i) := by
  unfold State.withdraw
  split
  · exact ((h.notify _).raise _).putFrame i none
  · exact h

theorem starve : s.Keeps t.starve.2 := h.raise _

theorem allocate (n : Option Nat) (x : Trigger) : s.Keeps (t.allocate n x).2 := by
  unfold State.allocate
  split
  · exact h.starve
  · split
    · exact h.fillSlot _ _ _
    · split
      · split
        · exact (h.withdraw _).fillSlot _ _ _
        · exact h.starve
      · exact h.starve

theorem serve (x : Trigger) : s.Keeps (t.serve x).2 := by
  unfold State.serve
  dsimp only
  split
  · exact h.allocate _ _
  · exact (h.allocate _ _).countSkipped _

theorem takeTrigger (x : Trigger) : s.Keeps (t.takeTrigger x).2 := by
  unfold State.takeTrigger
  split
  · split
    · split
      · exact (h.countSkipped _).raise _
      · exact h.updRun (f := fun r => { r with pendingTrigger := some x }) id
    · dsimp only
      split
      · exact h.serve x
      · exact h.serve x
  · exact h

theorem servePending : s.Keeps t.servePending := by
  unfold State.servePending
  split
  · exact (h.updRun (f := fun r => { r with pendingTrigger := none }) id).serve _
  · exact h

/-! ## The end of a strobe's light, and the lockout set -/

theorem darken : s.Keeps (t.updRing RingState.darken) := h.updRing (RingState.follows_darken _)

theorem beginReading (i : Fin 6) (cut : Bool) : s.Keeps (t.beginReading i cut) := h.same (by simp)

theorem handOver (x : StrobeTarget) (cut : Bool) : s.Keeps (t.handOver x cut) := h.same (by simp)

theorem cutByTrip : s.Keeps t.cutByTrip := by
  unfold State.cutByTrip
  split
  · exact h.darken.handOver _ _
  · exact h

/-- R3: the self-test ends, or is skipped, once the scan is complete. -/
theorem endStartup (past : s.writesHeld → t.store.scanning = false) : s.Keeps t.endStartup :=
  (h.updRun_past past).notify _

theorem endDeferral : s.Keeps t.endDeferral := by
  unfold State.endDeferral
  split
  · split
    · exact (h.abandon _).closeIfIdle
    · exact h.dropDeferral
  · exact h

theorem endSelfTest : s.Keeps t.endSelfTest := by
  unfold State.endSelfTest
  split
  case isTrue tests =>
    refine h.endStartup fun b => ?_
    by_contra scanning
    have absent := ((h.writes b).1 (Bool.not_eq_false _ ▸ scanning)).2.1
    simp [absent] at tests
  case isFalse => exact h

theorem putLockout (r : LockoutReason) (v : Bool) :
    s.Keeps (t.updRing fun q => { q with lockout := q.lockout.put r v }) :=
  h.updRing (.of_same rfl rfl rfl rfl rfl (.inl rfl))

theorem enterLockout (r : LockoutReason) : s.Keeps (t.enterLockout r) := by
  unfold State.enterLockout
  dsimp only
  split
  · exact h.raise _
  · split
    · exact ((((h.raise _).putLockout r true).cutByTrip.endDeferral).endRun _).endSelfTest
    · exact ((((h.raise _).putLockout r true).endDeferral).endRun _).endSelfTest

theorem testRelease (r : LockoutReason) : s.Keeps (t.testRelease r) := by
  unfold State.testRelease
  exact h.updRing (.of_same rfl rfl rfl rfl rfl (.inl rfl))

end

end State.Keeps

end Sys2Proof.Machine

/-! PROOFS. The operations of the line, the run controller, the travel counter, the supply monitor, the ring, the sensor
port and the engine keep the invariants. -/

namespace Sys2Proof.Machine

namespace State.Keeps

section

variable {s t : State} (h : s.Keeps t)
include h

/-! ## The line and the tile sender -/

theorem give (p : Party) (bytes : List Byte) : s.Keeps (t.updLine (LineState.give p bytes)) :=
  h.updLine (.of_same rfl rfl rfl rfl rfl)

theorem startMessage : s.Keeps t.startMessage := by
  unfold State.startMessage
  split
  · split
    · exact h.give _ _
    · exact h
  · exact h

theorem startTile : s.Keeps t.startTile := by
  unfold State.startTile
  split
  · split
    · split
      · exact (h.give _ _).putTransfer _
      · exact h
    · exact h
  · exact h

theorem endTransfer (i : Fin 6) : s.Keeps (t.endTransfer i) := by
  unfold State.endTransfer
  dsimp only
  split
  · exact (h.putTransfer none).discard i
  · exact (h.putTransfer none).modifyFrame i _

theorem stopSlot (i : Fin 6) (release : Bool) : s.Keeps (t.stopSlot i release) := by
  unfold State.stopSlot
  split
  · split
    · exact h.discard i
    · split
      · exact h.putFrame i _
      · exact h
  · exact h

theorem stopEffect (i : Fin 6) (release : Bool) : s.Keeps (t.stopEffect i release) :=
  ((h.putTransfer none).stopSlot i release).done _

theorem waitingStop : s.Keeps t.waitingStop := by
  unfold State.waitingStop
  split
  · split
    · exact h.stopEffect _ _
    · exact h
  · exact h

theorem freeLine : s.Keeps (t.updLine fun l => { l with onLine := none }) := h.updLine (.of_same rfl rfl rfl rfl rfl)

theorem tileSent : s.Keeps t.tileSent := by
  unfold State.tileSent
  split
  · split
    · dsimp only
      refine State.Keeps.waitingStop ?_
      split
      · exact ((h.freeLine.modifyFrame _ _).putTransfer _).endTransfer _
      · exact (h.freeLine.modifyFrame _ _).putTransfer _
    · exact h
  · exact h

/-! ## The receiver -/

theorem putReceiver (r : Receiver) : s.Keeps (t.updLine fun l => { l with receiver := r }) :=
  h.updLine (.of_same rfl rfl rfl rfl rfl)

theorem discardMessage : s.Keeps (t.updLine LineState.discardMessage) :=
  (h.putReceiver .hunting).updLine (LineState.grows_raise _ _)

theorem restartSilence : s.Keeps t.restartSilence := by
  unfold State.restartSilence
  exact State.Keeps.updRun h id

theorem gathered (bytes : List Byte) : s.Keeps (t.gathered bytes) := by
  unfold State.gathered
  split
  · exact h.putReceiver _
  · split
    · exact h.discardMessage
    · split
      · exact h.putReceiver _
      · split
        · exact ((h.putReceiver .hunting).updLine (LineState.grows_offer _ _)).restartSilence
        · exact h.discardMessage

theorem receiveByte (b : Byte) : s.Keeps (t.receiveByte b) := by
  unfold State.receiveByte
  split
  · split
    · exact h.putReceiver _
    · exact h
  · exact h.gathered _

theorem receiveBytes (bytes : List Byte) : s.Keeps (bytes.foldl State.receiveByte t) :=
  List.foldlRecOn (motive := fun u => s.Keeps u) bytes _ h fun _ keeps b _ => keeps.receiveByte b

theorem gapExpired : s.Keeps t.gapExpired := by
  unfold State.gapExpired
  split
  · exact h
  · exact h.discardMessage

theorem getParam (body : List Byte) : s.Keeps (t.getParam body) := by
  unfold State.getParam
  dsimp only
  split
  · exact h.done _
  · exact h.refuse _

/-! ## The run controller -/

theorem openNewRun (m : RunMode) (n : Nat) (ready : t.run.part = .ready) : s.Keeps (t.openNewRun m n) := by
  have awake : t.run.part ≠ .startup := by rw [ready]; decide
  unfold State.openNewRun
  exact State.Keeps.updRun_awake (State.Keeps.restartSilence ((h.updRun_awake awake).updTravel _)) awake

theorem acceptRun (m : RunMode) (n : Nat) (now : Bool) (ready : t.run.part = .ready) :
    s.Keeps (t.acceptRun m n now) := by
  have opened := (h.openNewRun m n ready).done (.runNumber (t.openNewRun m n).run.runNumber)
  unfold State.acceptRun
  dsimp only
  split
  · exact opened.takeTrigger _
  · exact opened

theorem runStart (body : List Byte) : s.Keeps (t.runStart body) := by
  unfold State.runStart
  split
  · split
    case isTrue ready =>
      split
      · exact h.acceptRun _ _ _ ready
      · exact h.refuse _
    case isFalse => exact h.refuse _
  · exact h.refuse _

theorem runStop : s.Keeps t.runStop := by
  unfold State.runStop
  split
  · exact (h.done _).endRun _
  · exact h.refuse _

theorem hostTrigger : s.Keeps t.hostTrigger := by
  unfold State.hostTrigger
  split
  · exact (h.takeTrigger _).done _
  · exact h.refuse _

theorem single : s.Keeps t.single := by
  unfold State.single
  split
  · split
    · split
      · exact h.refuse _
      · dsimp only
        split
        · exact (h.allocate _ _).done _
        · exact (h.allocate _ _).refuse _
    · exact h.refuse _
  · exact h.refuse _

theorem park : s.Keeps t.park := by
  unfold State.park
  split
  case h_1 ready => exact (h.updRun_awake (by rw [ready]; decide)).done _
  case h_2 => exact (h.done _).endRun _
  case h_3 => exact h.refuse _

theorem startScan : s.Keeps t.startScan := h.same (by simp)

theorem beginWaking (w : WakeReason) (dormant : t.run.part = .dormant) : s.Keeps (t.beginWaking w) := by
  unfold State.beginWaking
  exact State.Keeps.engineTake (State.Keeps.startScan
    (State.Keeps.updTravel (h.updRun_awake (by rw [dormant]; decide)) _))

theorem wake : s.Keeps t.wake := by
  unfold State.wake
  split
  case h_1 parked => exact (h.updRun_awake (by rw [parked]; decide)).done _
  case h_2 dormant => exact (h.beginWaking _ dormant).done _
  case h_3 => exact h.refuse _

theorem sleep : s.Keeps t.sleep := by
  unfold State.sleep
  split
  case isTrue rests =>
    split
    · exact h.refuse _
    · have awake : t.run.part ≠ .startup := by rcases rests with e | e <;> rw [e] <;> decide
      exact State.Keeps.done (State.Keeps.updMonitor (State.Keeps.updTravel (h.updRun_awake awake) _) _) _
  case isFalse => exact h.refuse _

theorem intervalExpired : s.Keeps t.intervalExpired := by
  unfold State.intervalExpired
  split
  · exact State.Keeps.takeTrigger
      (h.updRun (f := fun r => { r with intervalTimer := some (t.param .interval) }) id) _
  · exact h

theorem silenceExpired : s.Keeps t.silenceExpired := by
  unfold State.silenceExpired
  split
  · have stopped : s.Keeps (t.updRun fun r => { r with silenceTimer := none }) := h.updRun id
    dsimp only
    split
    case isTrue running => exact ((stopped.leaveRunning _ running).raise _).closeIfIdle
    case isFalse => exact stopped
  · exact h

theorem wakeSettled : s.Keeps t.wakeSettled := by
  unfold State.wakeSettled
  split
  case h_1 timer _ =>
    refine (h.updRun fun starting => ?_).notify _
    rw [starting.2.2] at timer
    cases timer
  case h_2 => exact h

/-! ## The travel counter -/

theorem distanceTrigger (due : Bool) : s.Keeps (t.distanceTrigger due) := by
  unfold State.distanceTrigger
  split
  · exact h.takeTrigger _
  · exact h

theorem motionWake : s.Keeps t.motionWake := by
  unfold State.motionWake
  split
  · split
    case isTrue reached => exact h.beginWaking _ reached.1
    case isFalse => exact h
  · exact h

theorem quadrature (a b : Bool) (time : Nat) : s.Keeps (t.quadrature a b time) := by
  unfold State.quadrature
  split
  · exact h
  · exact ((h.updTravel _).distanceTrigger _).motionWake
  · exact ((h.updTravel _).distanceTrigger _).motionWake
  · exact (h.raise _).updTravel _

theorem setPosition (body : List Byte) : s.Keeps (t.setPosition body) := (h.updTravel _).done _

/-! ## The ring -/

theorem putSegment (i : Fin 12) (g : Segment) : s.Keeps (t.putSegment i g) := by
  unfold State.putSegment
  exact h.updRing (.of_same rfl rfl rfl rfl rfl (.inl rfl))

theorem segmentSet (known : Bool) (action : Segment → Option Segment) (body : List Byte) :
    s.Keeps (t.segmentSet known action body) := by
  unfold State.segmentSet
  split
  · split
    · split
      · exact (h.putSegment _ _).done _
      · exact h.refuse _
    · exact h.refuse _
  · exact h.refuse _

theorem startStrobe (i : Fin 6) : s.Keeps (t.startStrobe i) := by
  unfold State.startStrobe
  have fired := fun (d : Nat) levels (g : Frame → Frame) =>
    (h.updRing (RingState.follows_fire i d levels t.ring)).modifyFrame i g
  dsimp only
  split
  · exact (fired _ _ _).raise _
  · exact fired _ _ _

theorem deferCapture (i : Fin 6) : s.Keeps (t.deferCapture i) := by
  unfold State.deferCapture
  refine State.Keeps.modifyFrame (h.updRing ⟨id, fun d deferred => .inr ⟨i, ?_⟩⟩) i _
  cases deferred
  rfl

theorem takeCapture (i : Fin 6) : s.Keeps (t.takeCapture i) := by
  unfold State.takeCapture
  split
  · split
    · exact h.deferCapture i
    · exact h.startStrobe i
  · exact (h.abandon i).closeIfIdle

theorem takeStrobeRequest : s.Keeps t.takeStrobeRequest := by
  unfold State.takeStrobeRequest
  split
  · dsimp only
    split
    · exact (h.putRequest none).takeCapture _
    · exact h.putRequest none
  · exact h

/-- R3, R4: the self-test goes on once the scan is complete. -/
theorem requestPulse (i : Fin 12) (past : s.writesHeld → t.store.scanning = false) : s.Keeps (t.requestPulse i) := by
  have turn : s.Keeps (t.updRun fun r => { r with selfTest := some i }) := h.updRun_past past
  unfold State.requestPulse
  dsimp only
  split
  · split
    · exact turn.updRing_past past id
    · exact turn.updRing (RingState.follows_firePulse i _)
  · exact turn.endStartup past

theorem continueSelfTest (k : Nat) (past : s.writesHeld → t.store.scanning = false) :
    s.Keeps (t.continueSelfTest k) := by
  unfold State.continueSelfTest
  split
  · exact h.requestPulse _ past
  · exact h.endStartup past

theorem beginSelfTest (past : s.writesHeld → t.store.scanning = false) : s.Keeps t.beginSelfTest := by
  unfold State.beginSelfTest
  split
  · exact h.continueSelfTest 0 past
  · exact h.endStartup past

/-- R3: a part whose self-test goes on has completed the scan. -/
theorem past_of_selfTest (tests : t.run.selfTest ≠ none) (b : s.writesHeld) : t.store.scanning = false := by
  by_contra scanning
  exact tests ((h.writes b).1 (Bool.not_eq_false _ ▸ scanning)).2.1

/-- R3: a part that defers a pulse of the self-test has completed the scan. -/
theorem past_of_pulse {d : Deferral} {k : Fin 12} (held : t.ring.deferral = some d) (pulse : d.target = .selfTest k)
    (b : s.writesHeld) : t.store.scanning = false := by
  by_contra scanning
  obtain ⟨i, capture⟩ := ((h.writes b).1 (Bool.not_eq_false _ ▸ scanning)).2.2.2.2 d held
  rw [pulse] at capture
  cases capture

theorem afterLight (x : StrobeTarget) : s.Keeps (t.afterLight x) := by
  unfold State.afterLight
  split
  · exact h.beginReading _ false
  · split
    case isTrue tests => exact h.continueSelfTest _ (h.past_of_selfTest (Option.isSome_iff_ne_none.mp tests))
    case isFalse => exact h

theorem strobeEnded : s.Keeps t.strobeEnded := by
  unfold State.strobeEnded
  split
  · exact h.darken.afterLight _
  · exact h

theorem guardExpired : s.Keeps t.guardExpired := by
  unfold State.guardExpired
  split
  · exact (h.darken.enterLockout _).handOver _ _
  · exact h

theorem exclusionReleased : s.Keeps t.exclusionReleased := by
  unfold State.exclusionReleased
  split
  · split
    · exact h.dropDeferral.startStrobe _
    · exact h.updRing (RingState.follows_firePulse _ _)
  · exact h

theorem deferralExpired : s.Keeps t.deferralExpired := by
  unfold State.deferralExpired
  split
  case h_1 d held =>
    split
    case h_1 => exact (((h.abandon _).raise _).closeIfIdle).servePending
    case h_2 k pulse => exact (h.dropDeferral.raise _).continueSelfTest _ (h.past_of_pulse held pulse)
  case h_2 => exact h

theorem raiseSome (o : Option Condition) : s.Keeps (t.raiseSome o) := by
  unfold State.raiseSome
  split
  · exact h.raise _
  · exact h

theorem applySample (senses : StrobeSenses) (lit : Strobe) (i : Fin 12) :
    s.Keeps (State.applySample senses lit t i) := by
  unfold State.applySample
  split
  · exact (h.putSegment i _).raiseSome _
  · exact h

theorem strobeReading (x : StrobeTarget) : s.Keeps (t.strobeReading x) := h.same (by simp)

/-- R65: the strobe record is marked, with its levels and its target as they were. -/
theorem markMidPoint {x : Strobe} (lit : t.ring.strobe = some x) :
    s.Keeps (t.updRing fun r => { r with strobe := some { x with midPassed := true } }) := by
  refine h.updRing ⟨fun matched => ?_, fun _ => .inl⟩
  unfold RingState.matched at matched
  rw [lit] at matched
  exact matched

theorem midPoint (senses : StrobeSenses) : s.Keeps (t.midPoint senses) := by
  unfold State.midPoint
  split
  case h_1 x lit =>
    split
    · exact h
    · refine State.Keeps.strobeReading ?_ _
      exact List.foldlRecOn (motive := fun u => s.Keeps u) _ _ (h.markMidPoint lit)
        fun _ keeps i _ => keeps.applySample senses x i
  case h_2 => exact h

/-! ## The supply monitor -/

theorem lowSupplyTest (v : Int) : s.Keeps (t.lowSupplyTest v) := by
  unfold State.lowSupplyTest
  split
  · exact h.updMonitor _
  · split
    · exact h.updMonitor _
    · exact (h.updMonitor _).enterLockout _

theorem derate (g : Fin 3) (v : Int) : s.Keeps (t.derate g v) := by
  unfold State.derate
  dsimp only
  split
  · exact (h.updMonitor _).raise _
  · exact h.updMonitor _

theorem tripTest (v : Int) : s.Keeps (t.tripTest v) := by
  unfold State.tripTest
  split
  · exact h.enterLockout _
  · exact h

theorem ringReading (g : Fin 3) (v : Int) : s.Keeps (t.ringReading g v) :=
  ((h.derate g v).tripTest v).testRelease _

theorem handOnReading (c : Channel) (v : Int) : s.Keeps (t.handOnReading c v) := by
  cases c with
  | supply => exact (h.lowSupplyTest v).testRelease _
  | ringT0 | ringT1 | ringT2 => exact h.ringReading _ v
  | boardT | ref => exact h

theorem scanEnded (code : Nat) (celsius : Int) : s.Keeps (t.scanEnded code celsius) := by
  unfold State.scanEnded
  split
  · split
    · exact ((h.updMonitor _).handOnReading _ _).startScan
    · exact h
  · exact h

theorem drooped (i : Fin 6) (n : Nat) : s.Keeps (t.drooped i n) := by
  unfold State.drooped State.flagDroop
  exact State.Keeps.updMonitor ((h.modifyFrame i _).raise _) _

theorem strobeConversionEnded (code : Nat) : s.Keeps (t.strobeConversionEnded code) := by
  unfold State.strobeConversionEnded
  split
  · split
    · refine State.Keeps.startScan ?_
      split
      · exact (h.updMonitor _).drooped _ _
      · exact (h.updMonitor _).updMonitor _
    · exact h
  · exact h

/-! ## The balance unit, the sensor port and the engine -/

theorem judge (j : Table 12 Judged) : s.Keeps (t.judge j) := by
  unfold State.judge
  dsimp only
  split
  · exact (h.updBalance _).raise _
  · exact h.updBalance _

theorem analyse (i : Fin 6) : s.Keeps (t.analyse i) := by
  unfold State.analyse
  split
  · split
    · exact h.same (by simp)
    · split
      · exact h.same (by simp)
      · unfold State.revise
        refine State.Keeps.judge (State.Keeps.updBalance ?_ _) _
        exact h.same (by simp)
  · exact h

theorem balanceRelease : s.Keeps t.balanceRelease := by
  unfold State.balanceRelease
  split
  · exact (h.updBalance _).done _
  · exact h.refuse _

theorem balanceRestart : s.Keeps t.balanceRestart := (h.enterCold.updBalance _).done _

theorem sensorError (i : Fin 6) : s.Keeps (t.sensorError i) := by
  unfold State.sensorError
  exact State.Keeps.servePending (State.Keeps.swapIfDue (State.Keeps.closeIfIdle
    ((((h.raise _).updFrames _).discard i).countSkipped _)))

theorem endRunAtCount : s.Keeps t.endRunAtCount := by
  unfold State.endRunAtCount
  split
  · split
    · exact h.endRun _
    · exact h
  · exact h

theorem joinQueue (i : Fin 6) : s.Keeps (t.joinQueue i) := ((h.modifyFrame i _).updFrames _).engineTake

theorem countCapture (n : Option Nat) : s.Keeps (t.countCapture n) := by
  unfold State.countCapture
  dsimp only
  split
  · exact ((h.countCaptured n).endRunAtCount).closeIfIdle
  · exact (h.countCaptured n).closeIfIdle

theorem readoutComplete (i : Fin 6) : s.Keeps (t.readoutComplete i) := by
  unfold State.readoutComplete
  exact State.Keeps.servePending (State.Keeps.swapIfDue
    (State.Keeps.countCapture (State.Keeps.joinQueue (State.Keeps.analyse (h.updFrames _) i) i) _))

theorem frameStarted : s.Keeps t.frameStarted := by
  unfold State.frameStarted
  split
  · exact h.updFrames _
  · exact h.sensorError _
  · exact h

theorem lineReceived (samples : List (BitVec 10)) : s.Keeps (t.lineReceived samples) := h.same (by simp)

theorem frameEnded : s.Keeps t.frameEnded := by
  unfold State.frameEnded
  split
  · split
    · exact h.readoutComplete _
    · exact h.sensorError _
  · exact h.sensorError _
  · exact h

theorem readoutExpired : s.Keeps t.readoutExpired := by
  unfold State.readoutExpired
  split
  · exact h.sensorError _
  · exact h

theorem freeEngine : s.Keeps t.freeEngine := (h.putHand none).engineTake

theorem finishFrame (i : Fin 6) (f : Frame) : s.Keeps (t.finishFrame i f) :=
  (((h.putFrame i _).endReference _).notify _).freeEngine

theorem afterTile (i : Fin 6) (k : Nat) (f : Frame) : s.Keeps (t.afterTile i k f) := by
  unfold State.afterTile
  split
  · exact (h.discard i).freeEngine
  · split
    · exact h.finishFrame i f
    · exact h.putHand _

theorem tileCompleted : s.Keeps t.tileCompleted := by
  unfold State.tileCompleted
  split
  · split
    · exact (h.putFrame _ _).afterTile _ _ _
    · exact h
  · exact h

/-! ## Frames and transfers -/

theorem releaseFrame (body : List Byte) : s.Keeps (t.releaseFrame body) := by
  unfold State.releaseFrame
  split
  · split
    · unfold State.releaseNamed
      split
      any_goals exact h.refuse _
      any_goals exact (h.discard _).done _
      · exact ((h.updFrames _).discard _).done _
      · exact (h.modifyFrame _ _).done _
    · exact h.refuse _
  · exact h.refuse _

theorem addCredits (f : Frame) (start : Option Nat) (credits : Nat) : s.Keeps (t.addCredits f start credits) := by
  unfold State.addCredits
  split
  · split
    · exact (h.putTransfer _).done _
    · exact h.refuse _
  · exact h.refuse _

theorem startTransfer (i : Fin 6) (f : Frame) (start : Option Nat) (credits : Nat) :
    s.Keeps (t.startTransfer i f start credits) :=
  ((h.putFrame i _).putTransfer _).done _

theorem grantNamed (i : Fin 6) (f : Frame) (start : Option Nat) (credits : Nat) :
    s.Keeps (t.grantNamed i f start credits) := by
  have starts : s.Keeps (if t.othersSending i then t.refuse .busy else t.startTransfer i f start credits) := by
    split
    · exact h.refuse _
    · exact h.startTransfer _ _ _ _
  unfold State.grantNamed
  split
  case h_1 | h_2 | h_3 => exact starts
  case h_4 =>
    split
    · exact h.refuse _
    · exact h.addCredits _ _ _
  all_goals exact h.refuse _

theorem transferGrant (body : List Byte) : s.Keeps (t.transferGrant body) := by
  unfold State.transferGrant
  split
  · split
    · exact h.grantNamed _ _ _ _
    · exact h.refuse _
  · exact h.refuse _

theorem transferStop (known release : Bool) (body : List Byte) : s.Keeps (t.transferStop known release body) := by
  unfold State.transferStop
  split
  · split
    · split
      · split
        · unfold State.acceptStop
          split
          · exact h.hold fun _ same => by cases same
          · exact h.stopEffect _ _
        · exact h.refuse _
      · exact h.refuse _
    · exact h.refuse _
  · exact h.refuse _

end

end State.Keeps

end Sys2Proof.Machine

/-! PROOFS. The operations of the profile store and the loads keep the invariants, and so does every step (tier 3). -/

namespace Sys2Proof.Machine

/-! ## What the operations of the store make of it -/

theorem Table.get_modify {n : Nat} {α : Type} (t : Table n α) (i j : Fin n) (f : α → α) :
    (t.modify i f).get j = if i = j then f (t.get i) else t.get j :=
  Table.get_set t i j _

/-- New areas, each with a canonical memory. -/
theorem StoreState.follows_areas {t u : StoreState}
    (areas : t.canonical → ∀ i : Fin 16, (u.areas.get i).mem.wf = true)
    (rest : t.Follows { u with areas := t.areas }) : t.Follows u :=
  ⟨fun c => ⟨(rest.canonical c).1, areas c⟩, rest.load, rest.scanning, rest.writes⟩

theorem StoreState.follows_putEntry (i : Fin 16) (e : DirEntry) (t : StoreState) : t.Follows (t.putEntry i e) :=
  .of_same rfl rfl (.inl rfl) rfl (.inr ⟨rfl, rfl, rfl⟩)

theorem StoreState.follows_putArea {i : Fin 16} {m : Memory} {t : StoreState} (wf : t.canonical → m.wf = true) :
    t.Follows (t.putArea i m) := by
  refine StoreState.follows_areas (fun c j => ?_) (.of_same rfl rfl (.inl rfl) rfl (.inr ⟨rfl, rfl, rfl⟩))
  simp only [StoreState.putArea, Table.get_set]
  split
  · exact wf c
  · exact c.2 j

theorem StoreState.follows_decay (i : Fin 16) (cells : List Host.Cell) (t : StoreState) :
    t.Follows (t.decay i cells) := by
  refine StoreState.follows_areas (fun c j => ?_) (.of_same rfl rfl (.inl rfl) rfl (.inr ⟨rfl, rfl, rfl⟩))
  simp only [StoreState.decay, Table.get_modify]
  split
  · exact Memory.overlay_wf cells (c.2 i)
  · exact c.2 j

/-- R148: an interruption leaves an area's memory, whose bytes are then not read. -/
theorem StoreState.follows_interrupt (t : StoreState) : t.Follows t.interrupt := by
  have disturbs (i : Fin 16) : t.Follows (t.disturb i) := by
    refine StoreState.follows_areas (fun c j => ?_) (.of_same rfl rfl (.inl rfl) rfl (.inr ⟨rfl, rfl, rfl⟩))
    simp only [StoreState.disturb, Table.get_modify]
    split
    · exact c.2 i
    · exact c.2 j
  unfold StoreState.interrupt
  split
  · split
    · split
      · exact disturbs _
      · exact disturbs _
      · exact disturbs _
      · exact .of_same rfl rfl (.inl rfl) rfl (.inr ⟨rfl, rfl, rfl⟩)
    · exact .refl t
  · exact .refl t

theorem StoreState.follows_serveAfterOperation (t : StoreState) : t.Follows t.serveAfterOperation := by
  unfold StoreState.serveAfterOperation
  split
  · split
    · exact .of_same rfl rfl (.inl rfl) rfl (.inr ⟨rfl, rfl, rfl⟩)
    · exact .refl t
  · exact .refl t

theorem Operation.asked_kind (o : Operation) : o.asked.kind = o.kind := by
  unfold Operation.asked
  split <;> rfl

theorem Operation.asked_phase (o : Operation) : o.asked.phase = o.phase := by
  unfold Operation.asked
  split <;> rfl

theorem StoreState.follows_claim (c : Claim) (t : StoreState) : t.Follows (t.claim c) := by
  have waits : t.Follows { t with waiting := t.waiting ++ [c] } :=
    .of_same rfl rfl (.inl rfl) rfl (.inr ⟨rfl, rfl, rfl⟩)
  unfold StoreState.claim
  split
  · exact .of_same rfl rfl (.inl rfl) rfl (.inr ⟨rfl, rfl, rfl⟩)
  · split
    · exact waits
    · exact StoreState.follows_mapOperation Operation.asked_kind Operation.asked_phase waits rfl

theorem StoreState.follows_serveNext (t : StoreState) : t.Follows t.serveNext := by
  unfold StoreState.serveNext
  split
  · exact .of_same rfl rfl (.inl rfl) rfl (.inr ⟨rfl, rfl, rfl⟩)
  · exact StoreState.follows_mapOperation (f := Operation.resumed) (fun _ => rfl) (fun _ => rfl)
      (.of_same rfl rfl (.inl rfl) rfl (.inr ⟨rfl, rfl, rfl⟩)) rfl

/-- An operation that goes on, of the same kind or at a later area of an ALL erase, from one that was not yet in
VERIFYING. -/
theorem StoreState.follows_putOperation {t : StoreState} {o p : Operation} (going : t.operation = some p)
    (phase : o.phase ≠ .verifying → p.phase ≠ .verifying) (may : t.mayWrite p.kind → t.mayWrite o.kind) :
    t.Follows { t with operation := some o } := by
  refine ⟨id, fun _ => id, rfl, fun q goes => ?_⟩
  cases goes
  exact ⟨p, going, fun running => ⟨phase running, rfl, may⟩⟩

theorem StoreState.follows_suspended (t : StoreState) : t.Follows t.suspended := by
  unfold StoreState.suspended
  split
  case h_1 o going =>
    split
    · exact StoreState.Follows.trans
        (StoreState.follows_putOperation (o := { o with suspension := .suspended, count := o.count + 1 }) going id id)
        (StoreState.follows_serveAfterOperation _)
    · exact .refl t
  case h_2 => exact .refl t

/-- R151, R153: the operation has ended. -/
theorem StoreState.follows_ended (tag : Byte) (result : OperationResult) (t : StoreState) :
    t.Follows (StoreState.serveAfterOperation
      { t with operation := none, permit := false, lastResult := some (result, tag) }) :=
  StoreState.Follows.trans (u := { t with operation := none, permit := false, lastResult := some (result, tag) })
    (.of_same rfl rfl (.inl rfl) rfl (.inl rfl)) (StoreState.follows_serveAfterOperation _)

theorem StoreState.serveAfterOperation_operation (t : StoreState) :
    t.serveAfterOperation.operation = t.operation := by
  unfold StoreState.serveAfterOperation
  split
  · split <;> rfl
  · rfl

/-- R152: an abandonment leaves no operation, whatever it was, and canonical memories. -/
theorem StoreState.follows_abandoned (o : Operation) (result : OperationResult) (t : StoreState) :
    t.Follows (StoreState.serveAfterOperation
      { t.interrupt.rejudged o.kind with operation := none, permit := false, lastResult := some (result, o.tag) }) := by
  have stops : t.Follows { t.interrupt with operation := none } :=
    t.follows_interrupt.trans (.of_same rfl rfl (.inl rfl) rfl (.inl rfl))
  have rejudges : StoreState.Follows { t.interrupt with operation := none }
      { t.interrupt.rejudged o.kind with operation := none, permit := false, lastResult := some (result, o.tag) } := by
    cases o.kind <;> exact .of_same rfl rfl (.inl rfl) rfl (.inl rfl)
  exact stops.trans (rejudges.trans (StoreState.follows_serveAfterOperation _))

/-! ## The operations of the store keep the invariants -/

namespace State.Keeps

section

variable {s t : State} (h : s.Keeps t)
include h

theorem endOperation (tag : Byte) (result : OperationResult) : s.Keeps (t.endOperation tag result) :=
  (h.updStore (StoreState.follows_ended tag result _)).notify _

theorem abandonOperation : s.Keeps t.abandonOperation := by
  unfold State.abandonOperation
  split
  case h_1 o _ =>
    split
    · exact h
    · have stopped := h.updStore (f := fun q => StoreState.serveAfterOperation
        { q.interrupt.rejudged o.kind with operation := none, permit := false, lastResult := some (.aborted, o.tag) })
        (StoreState.follows_abandoned o .aborted t.store)
      exact stopped.notify (.storeDone o.tag .aborted)
  case h_2 => exact h

theorem storeStage (body : List Byte) : s.Keeps (t.storeStage body) := by
  unfold State.storeStage
  dsimp only
  split
  · exact h.refuse _
  · split
    · exact h.refuse _
    · refine State.Keeps.done (h.updStore ⟨fun c => ⟨Memory.writeRun_wf _ _ c.1, c.2⟩, fun _ => id, rfl, ?_⟩) _
      exact (StoreState.Follows.refl t.store).writes

theorem putPermit (permit : Bool) : s.Keeps (t.updStore fun q => { q with permit := permit }) :=
  h.updStore (.of_same rfl rfl (.inl rfl) rfl (.inr ⟨rfl, rfl, rfl⟩))

theorem storePermit : s.Keeps t.storePermit := by
  unfold State.storePermit
  split
  · exact h.refuse _
  · exact (h.putPermit true).done _

theorem storeRevoke : s.Keeps t.storeRevoke := (h.putPermit false).done _

/-- R153 to R155: an operation is accepted by a part that has completed the scan, is not locked, and may write what the
operation writes. -/
theorem beginOperation {f : StoreState → StoreState} {directory : Table 16 DirEntry} {o : Operation}
    (begins : f t.store = { t.store with directory := directory, operation := some o })
    (awake : t.run.part ≠ .startup) (unlocked : t.locked = false) (may : t.store.mayWrite o.kind) :
    s.Keeps (t.updStore f) := by
  have store : (t.updStore f).store = { t.store with directory := directory, operation := some o } := begins
  have lock : t.store.lockdown = false ∧ t.pins.wprot = false := by simpa [State.locked] using unlocked
  refine ⟨⟨h.powered, h.within, h.legal, fun c => ?_, h.light, fun b => ?_, fun b => ⟨fun scanning => ?_, ?_⟩⟩,
    h.conditions⟩
  · rw [store]
    exact h.canonical c
  · have loads : ∀ l, (t.updStore f).store.load = some l → t.store.load = some l := by
      rw [store]
      exact fun _ => id
    exact State.banksOrdered_of_blocks (t := t) (.refl _) loads (h.banks b)
  · rw [store] at scanning
    exact absurd ((h.writes b).1 scanning).1 awake
  · rw [store]
    intro p going _
    cases going
    refine ⟨lock.1, lock.2, ?_⟩
    cases kind : o.kind <;> rw [kind] at may <;> exact may

end

end State.Keeps

/-! ## What an accepted write has passed (R153 to R155) -/

theorem State.writeRefusal_none {shielded : Bool} {s : State} (h : s.writeRefusal shielded = none) :
    s.store.permit = true ∧ shielded = false ∧ s.locked = false ∧ s.store.operation = none := by
  unfold State.writeRefusal at h
  split at h
  · cases h
  case isFalse permit =>
    split at h
    · cases h
    case isFalse open_ =>
      split at h
      · cases h
      case isFalse unlocked =>
        split at h
        · cases h
        case isFalse idle => exact ⟨by simpa using permit, by simpa using open_, by simpa using unlocked, by simpa using idle⟩

theorem State.commitRefusal_none {i : Fin 16} {s : State} (h : s.commitRefusal i = none) :
    s.writeRefusal (s.store.isProtected i) = none := by
  unfold State.commitRefusal at h
  split at h
  · cases h
  · assumption

namespace State.Keeps

section

variable {s t : State} (h : s.Keeps t)
include h

theorem storeCommit (body : List Byte) (awake : t.run.part ≠ .startup) : s.Keeps (t.storeCommit body) := by
  unfold State.storeCommit
  split
  · split
    · exact h.refuse _
    case h_2 accepted =>
      obtain ⟨_, unprotected, unlocked, _⟩ := State.writeRefusal_none (State.commitRefusal_none accepted)
      refine (h.beginOperation rfl awake unlocked ?_).taken _
      exact unprotected
  · exact h.refuse _

theorem eraseOne (i : Fin 16) (awake : t.run.part ≠ .startup) : s.Keeps (t.eraseOne i) := by
  unfold State.eraseOne
  split
  · exact h.refuse _
  case h_2 accepted =>
    split
    · exact h.refuse _
    · obtain ⟨_, unprotected, unlocked, _⟩ := State.writeRefusal_none accepted
      refine (h.beginOperation rfl awake unlocked ?_).taken _
      exact unprotected

theorem eraseAll (awake : t.run.part ≠ .startup) : s.Keeps t.eraseAll := by
  unfold State.eraseAll
  split
  · exact h.refuse _
  case h_2 accepted =>
    split
    · exact h.refuse _
    · obtain ⟨_, unprotected, unlocked, _⟩ := State.writeRefusal_none accepted
      refine (h.beginOperation rfl awake unlocked ?_).taken _
      have none : ¬ t.store.protectSet ≠ 0 := of_decide_eq_false unprotected
      exact not_not.mp none

theorem storeErase (body : List Byte) (awake : t.run.part ≠ .startup) : s.Keeps (t.storeErase body) := by
  unfold State.storeErase
  dsimp only
  split
  · exact h.eraseAll awake
  · split
    · exact h.eraseOne _ awake
    · exact h.refuse _

theorem storeProtect (body : List Byte) (awake : t.run.part ≠ .startup) : s.Keeps (t.storeProtect body) := by
  unfold State.storeProtect
  split
  · exact h.refuse _
  case h_2 accepted =>
    obtain ⟨_, _, unlocked, _⟩ := State.writeRefusal_none accepted
    refine (h.beginOperation rfl awake unlocked ?_).taken _
    trivial

theorem testErased (i : Fin 16) : s.Keeps (t.testErased i) := by
  unfold State.testErased
  dsimp only
  split
  · exact h.updStore (StoreState.follows_putEntry _ _ _)
  · exact (h.updStore (StoreState.follows_putEntry _ _ _)).raise _

theorem afterErase {o : Operation} (going : t.store.operation = some o) (erasing : o.phase = .erasing) :
    s.Keeps (t.afterErase o) := by
  have running : o.phase ≠ .verifying := by rw [erasing]; decide
  have tested (i : Fin 16) : (t.testErased i).store.operation = some o := by
    rw [← going]
    unfold State.testErased
    dsimp only
    split <;> rfl
  unfold State.afterErase
  split
  case h_1 => exact h.updStore (StoreState.follows_putOperation going (fun _ => running) id)
  case h_2 i _ => exact (h.testErased i).endOperation _ _
  case h_3 i kind =>
    dsimp only
    split
    · refine (h.testErased i).updStore (StoreState.follows_putOperation (tested i) (fun _ => running) ?_)
      rw [kind]
      exact id
    · exact (h.testErased i).endOperation _ _
  case h_4 => exact h

end

end State.Keeps

theorem StoreState.running_some {phase : Phase} {t : StoreState} {o : Operation} (h : t.running phase = some o) :
    t.operation = some o ∧ o.begun = true ∧ o.suspension ≠ .suspended ∧ o.phase = phase := by
  unfold StoreState.running at h
  split at h
  · split at h
    case isTrue runs =>
      cases h
      exact ⟨by assumption, runs⟩
    case isFalse => cases h
  · cases h

namespace State.Keeps

section

variable {s t : State} (h : s.Keeps t)
include h

theorem erasingEnded (unerased : List Host.Cell) : s.Keeps (t.erasingEnded unerased) := by
  unfold State.erasingEnded
  split
  case h_1 runs =>
    obtain ⟨going, _, _, erasing⟩ := StoreState.running_some runs
    split
    · exact (h.updStore (StoreState.follows_putArea fun _ => Memory.overlay_wf _ Memory.erased_wf)).afterErase going
        erasing
    · exact h
  case h_2 => exact h

theorem programmingEnded (wrong : List Host.Cell) : s.Keeps (t.programmingEnded wrong) := by
  unfold State.programmingEnded
  split
  case h_1 o runs =>
    obtain ⟨going, _, _, programming⟩ := StoreState.running_some runs
    split
    case h_1 i _ =>
      refine State.Keeps.updStore (h.updStore (StoreState.follows_putArea fun c => ?_)) ?_
      · exact Memory.overlay_wf _ (Memory.writeRun_wf _ _ (c.2 i))
      · exact StoreState.follows_putOperation going (fun running => absurd rfl running) id
    case h_2 set _ =>
      have finished := h.updStore (f := fun q => StoreState.serveAfterOperation
        { q with control := .good set, protectSet := set, operation := none, permit := false,
                 lastResult := some (.ok, o.tag) })
        (.trans (u := { t.store with
            control := .good set, protectSet := set, operation := none, permit := false,
            lastResult := some (.ok, o.tag) })
          (.of_same rfl rfl (.inl rfl) rfl (.inl rfl)) (StoreState.follows_serveAfterOperation _))
      exact finished.notify (.storeDone o.tag .ok)
    all_goals exact h
  case h_2 => exact h

theorem verifyingEnded : s.Keeps t.verifyingEnded := by
  unfold State.verifyingEnded
  split
  · split
    · split
      · exact (h.updStore (StoreState.follows_putEntry _ _ _)).endOperation _ _
      · exact ((h.updStore (StoreState.follows_putEntry _ _ _)).raise _).endOperation _ _
    all_goals exact h
  · exact h

theorem storeRead (body : List Byte) : s.Keeps (t.storeRead body) := by
  unfold State.storeRead
  dsimp only
  split
  · split
    · exact h.refuse _
    · split
      · exact h.refuse _
      · exact (h.updStore (StoreState.follows_claim _ _)).hold fun _ same => by cases same
  · exact h.refuse _

theorem storeReadEnded : s.Keeps t.storeReadEnded := by
  unfold State.storeReadEnded
  split
  · exact (h.done _).updStore (StoreState.follows_serveNext _)
  · exact h

theorem suspended : s.Keeps (t.updStore StoreState.suspended) := h.updStore (StoreState.follows_suspended _)

end

end State.Keeps

end Sys2Proof.Machine

/-! PROOFS. Parameters, loads, lockdown and WPROT, the scan and the resets keep the invariants; so does every step. -/

namespace Sys2Proof.Machine

/-! ## The parameter table (R168) -/

theorem Param.ofId_index (p : Param) : Param.ofId (p.index.val + 1) = some p := by
  cases p <;> rfl

theorem Param.index_inj {p q : Param} : p.index = q.index ↔ p = q := by
  refine ⟨fun h => Option.some_inj.mp ?_, congrArg _⟩
  rw [← Param.ofId_index p, ← Param.ofId_index q, h]

/-- A value put into the table is that parameter's and no other's. -/
theorem ParamTable.value_put (t : ParamTable) (p q : Param) (v : Nat) :
    (t.put p v).value q = if q = p then v else t.value q := by
  rw [ParamTable.value, ParamTable.put, Table.get_set]
  exact if_congr (Param.index_inj.trans eq_comm) rfl rfl

/-- R168: what an accepted value must meet. -/
theorem ParamTable.accepts_iff (t : ParamTable) (p : Param) (v : Nat) :
    t.accepts p v = true ↔ p.inRange v = true ∧
      (p = .thermalDerateStart → v + 6 ≤ t.value .thermalTripLevel) ∧
      (p = .thermalTripLevel → t.value .thermalDerateStart + 6 ≤ v) := by
  have start : (t.put .thermalDerateStart v).crossCheck = true ↔ v + 6 ≤ t.value .thermalTripLevel := by
    simp [ParamTable.crossCheck, ParamTable.value_put]
  have trip : (t.put .thermalTripLevel v).crossCheck = true ↔ t.value .thermalDerateStart + 6 ≤ v := by
    simp [ParamTable.crossCheck, ParamTable.value_put]
  unfold ParamTable.accepts
  rw [Bool.and_eq_true]
  refine and_congr_right fun _ => ?_
  cases p with
  | thermalDerateStart => simpa using start
  | thermalTripLevel => simpa using trip
  | _ => simp

theorem ParamTable.legal_put {t : ParamTable} {p : Param} {v : Nat} (legal : t.legal)
    (accepts : t.accepts p v = true) : (t.put p v).legal := by
  obtain ⟨range, start, trip⟩ := (t.accepts_iff p v).mp accepts
  obtain ⟨ranges, cross⟩ := legal
  refine ⟨fun q => ?_, ?_⟩
  · rw [ParamTable.value_put]
    split
    case isTrue same => exact same ▸ range
    case isFalse => exact ranges q
  · rw [ParamTable.value_put, ParamTable.value_put]
    split
    case isTrue isStart =>
      subst isStart
      exact start rfl
    case isFalse =>
      split
      case isTrue isTrip => exact trip isTrip.symm
      case isFalse => exact cross

/-! ## Loads (R124 to R126, R158) -/

/-- A bank that is not CURRENT replaced by another that is not. -/
theorem EngineState.ordered_setBank {e : EngineState} {w : BankId} {k : Bank} (ordered : e.ordered)
    (before : (e.bank w).state ≠ .current) (legal : k.legal) (after : k.state ≠ .current) :
    (e.setBank w k).ordered := by
  obtain ⟨one, legalA, legalB⟩ := ordered
  cases w
  · have other : e.bankB.state = .current := by
      by_contra absent
      exact before (one.mpr absent)
    exact ⟨⟨fun current => absurd current after, fun notCurrent => absurd other notCurrent⟩, legal, legalB⟩
  · have other : e.bankA.state = .current := one.mpr before
    exact ⟨⟨fun _ => after, fun _ => other⟩, legalA, legal⟩

theorem Bank.loadingOf_legal (id : Nat) : (Bank.loadingOf id).legal := by
  simp [Bank.legal, Bank.loadingOf]

theorem Bank.loadedWith_legal (id : Nat) (p : Profile) : (Bank.loadedWith id p).legal := by
  simp [Bank.legal, Bank.loadedWith]

theorem EngineState.bank_setBank (e : EngineState) (w : BankId) (k : Bank) : (e.setBank w k).bank w = k := by
  cases w <;> rfl

theorem State.swapIfDue_updStore (f : StoreState → StoreState) (s : State) :
    (s.updStore f).swapIfDue = s.swapIfDue.updStore f := by
  by_cases due : (s.engine.bank s.engine.current.other).state = .loaded ∧ s.pathBusy = false
  · have swaps : s.swapIfDue = _ := if_pos due
    rw [swaps]
    exact if_pos due
  · have stays : s.swapIfDue = s := if_neg due
    rw [stays]
    exact if_neg due

theorem State.abandonOperation_none {s : State} (idle : s.store.operation = none) : s.abandonOperation = s := by
  unfold State.abandonOperation
  rw [idle]

/-- R152: an abandonment leaves at most an operation in VERIFYING. -/
theorem State.abandonOperation_operation {s : State} {o : Operation}
    (going : s.abandonOperation.store.operation = some o) : o.phase = .verifying := by
  unfold State.abandonOperation at going
  split at going
  case h_1 p goes =>
    split at going
    case isTrue verifies =>
      rw [goes] at going
      cases going
      exact verifies
    case isFalse =>
      rw [State.endOperation, State.notify, State.updLine_store, State.updStore_store,
        StoreState.serveAfterOperation_operation] at going
      cases going
  case h_2 idle =>
    rw [idle] at going
    cases going

theorem State.abandonOperation_scanning (s : State) : s.abandonOperation.store.scanning = s.store.scanning := by
  unfold State.abandonOperation
  split
  case h_1 o _ =>
    split
    · rfl
    · exact (StoreState.follows_abandoned o .aborted s.store).scanning
  case h_2 => rfl

namespace State.Keeps

section

variable {s t : State} (h : s.Keeps t)
include h

theorem putParam {p : Param} {v : Nat} (accepts : t.line.params.accepts p v = true) : s.Keeps (t.putParam p v) := by
  have put : s.Keeps (t.updLine fun l => { l with params := l.params.put p v }) :=
    ⟨⟨h.powered, h.within, fun b => ParamTable.legal_put (h.legal b) accepts, h.canonical, h.light, h.banks, h.writes⟩,
      h.conditions⟩
  unfold State.putParam
  dsimp only
  split
  · exact put.updTravel _
  · exact put

theorem setParam (body : List Byte) : s.Keeps (t.setParam body) := by
  unfold State.setParam
  dsimp only
  split
  · split
    case isTrue accepts => exact (h.putParam accepts).done _
    case isFalse => exact h.refuse _
  · exact h.refuse _

/-- The banks changed while no load is in progress. -/
theorem updEngine_free {f : EngineState → EngineState} (free : t.store.load = none)
    (ordered : s.banksOrdered → t.engine.ordered → (f t.engine).ordered) : s.Keeps (t.updEngine f) := by
  refine ⟨⟨h.powered, h.within, h.legal, h.canonical, h.light, fun b => ?_, h.writes⟩, h.conditions⟩
  obtain ⟨one, legalA, legalB, _⟩ := h.banks b
  obtain ⟨one, legalA, legalB⟩ := ordered b ⟨one, legalA, legalB⟩
  refine ⟨one, legalA, legalB, fun l held => ?_⟩
  rw [State.updEngine_store, free] at held
  cases held

theorem dropLoad : s.Keeps (t.updStore fun q => { q with load := none }) :=
  h.updStore (.of_same rfl rfl (.inr rfl) rfl (.inr ⟨rfl, rfl, rfl⟩))

/-- R125, R126, R158: a load ends OK: its bank, which was LOADING, is LOADED, and swapped in when it can be. -/
theorem loadOk {l : LoadRecord} (id : Nat) (p : Profile)
    (loading : s.banksOrdered → (t.engine.bank l.bank).state = .loading) :
    s.Keeps ((t.fillBank l.bank id p).reportLoad l .ok) := by
  have filled : s.Keeps ((t.updStore fun q => { q with load := none }).updEngine
      fun e => e.setBank l.bank (Bank.loadedWith id p)) :=
    h.dropLoad.updEngine_free rfl fun b ordered => EngineState.ordered_setBank ordered
      (by rw [State.updStore_engine, loading b]; decide) (Bank.loadedWith_legal id p) (fun current => by cases current)
  unfold State.reportLoad State.fillBank
  rw [← State.swapIfDue_updStore]
  exact filled.swapIfDue.notify _

/-- R124, R157: a load begins in the spare bank. -/
theorem beginLoad {l : LoadRecord} (empty : (t.engine.bank l.bank).state = .empty) :
    s.Keeps ((t.updEngine fun e => e.setBank l.bank (Bank.loadingOf l.profileId)).updStore fun q =>
      { q with load := some l }) := by
  refine ⟨⟨h.powered, h.within, h.legal, h.canonical, h.light, fun b => ?_, h.writes⟩, h.conditions⟩
  obtain ⟨one, legalA, legalB, _⟩ := h.banks b
  obtain ⟨one, legalA, legalB⟩ := EngineState.ordered_setBank (e := t.engine) (w := l.bank) ⟨one, legalA, legalB⟩
    (by rw [empty]; decide) (Bank.loadingOf_legal l.profileId) (fun current => by cases current)
  refine ⟨one, legalA, legalB, fun m held => ?_⟩
  cases held
  simp only [State.updStore_engine, State.updEngine_engine, EngineState.bank_setBank]
  rfl

theorem acceptLoad {id : Nat} {w : BankId} (empty : (t.engine.bank w).state = .empty) :
    s.Keeps (t.acceptLoad id w) := by
  have taken := (h.beginLoad (l := { profileId := id, bank := w, tag := t.tagInHand }) empty).taken
    (.load t.tagInHand id w)
  unfold State.acceptLoad
  dsimp only
  split
  · refine taken.loadOk (l := { profileId := id, bank := w, tag := t.tagInHand }) _ _ fun _ => ?_
    simp only [State.taken_keeps, State.updStore_engine, State.updEngine_engine, EngineState.bank_setBank]
    rfl
  · exact taken.updStore (StoreState.follows_claim _ _)

theorem loadChosen (c : Choice) : s.Keeps (t.loadChosen c) := by
  unfold State.loadChosen
  split
  · dsimp only
    split
    case isTrue empty => exact h.acceptLoad empty
    case isFalse => exact h.refuse _
  · exact h.refuse _

theorem loadById (body : List Byte) : s.Keeps (t.loadById body) := by
  unfold State.loadById
  split
  · exact h.loadChosen _
  · exact h.refuse _

theorem loadByBore (body : List Byte) : s.Keeps (t.loadByBore body) := by
  unfold State.loadByBore
  split
  · exact h.loadChosen _
  · exact h.refuse _

theorem loadFailed {l : LoadRecord} (i : Fin 16)
    (loading : s.banksOrdered → (t.engine.bank l.bank).state = .loading) : s.Keeps (t.loadFailed l i) := by
  have emptied : s.Keeps ((t.updStore fun q => { q with load := none }).updEngine fun e => e.setBank l.bank Bank.none) :=
    h.dropLoad.updEngine_free rfl fun b ordered => EngineState.ordered_setBank ordered
      (by rw [State.updStore_engine, loading b]; decide) Bank.none_legal (by decide)
  exact ((emptied.updStore (StoreState.follows_putEntry i .invalid _)).raise .storeError).notify _

theorem loadEnded (decayed : List Host.Cell) : s.Keeps (t.loadEnded decayed) := by
  unfold State.loadEnded
  split
  case h_1 l _ held =>
    split
    case h_1 i _ =>
      have read := h.updStore (StoreState.follows_decay i decayed t.store)
      have loading (b : s.banksOrdered) : (t.engine.bank l.bank).state = .loading := (h.banks b).2.2.2 l held
      refine State.Keeps.updStore ?_ (StoreState.follows_serveNext _)
      split
      · exact read.loadOk _ _ loading
      · exact read.loadFailed i loading
    case h_2 => exact h
  case h_2 => exact h

/-! ## Lockdown, WPROT and the scan (R148, R151, R152) -/

/-- R152: lockdown or WPROT comes into force, and abandons what it finds in ERASING or PROGRAMMING. -/
theorem abandonLocked (p : Pins) (lockdown permit : Bool) :
    s.Keeps (State.abandonOperation
      { t with pins := p, store := { t.store with lockdown := lockdown, permit := permit } }) := by
  have keeps := (State.Keeps.refl
    { t with pins := p, store := { t.store with lockdown := lockdown, permit := permit } }).abandonOperation
  refine ⟨⟨keeps.powered.trans h.powered, fun b => keeps.within (h.within b), fun b => keeps.legal (h.legal b),
    fun b => keeps.canonical (h.canonical b), fun b => keeps.light (h.light b), fun b => keeps.banks (h.banks b),
    fun b => ⟨fun scanning => ?_, fun o going phase => ?_⟩⟩, fun d b => keeps.conditions d (h.conditions d b)⟩
  · rw [State.abandonOperation_scanning] at scanning
    obtain ⟨part, test, timer, idle, held⟩ := (h.writes b).1 scanning
    rw [State.abandonOperation_none (by exact idle)]
    exact ⟨part, test, timer, idle, held⟩
  · exact absurd (State.abandonOperation_operation going) phase

theorem storeLockdown : s.Keeps t.storeLockdown :=
  (h.done .nothing).abandonLocked t.pins true false

/-- R148: the scan is complete. -/
theorem scanned (scanning : t.store.scanning = true) : s.Keeps (t.updStore StoreState.scanned) := by
  refine ⟨⟨h.powered, h.within, h.legal, h.canonical, h.light, h.banks, fun b => ⟨fun still => ?_, ?_⟩⟩,
    h.conditions⟩
  · cases still
  intro o going
  have idle := ((h.writes b).1 scanning).2.2.2.1
  rw [State.updStore_store, StoreState.scanned, idle] at going
  cases going

theorem scanCompleted : s.Keeps t.scanCompleted := by
  unfold State.scanCompleted
  split
  case isTrue scanning =>
    dsimp only
    split
    · exact ((h.scanned scanning).raise _).beginSelfTest fun _ => rfl
    · exact (h.scanned scanning).beginSelfTest fun _ => rfl
  case isFalse => exact h

/-- A level put on the input lines that does not assert WPROT. -/
theorem updPins {f : Pins → Pins} (wprot : (f t.pins).wprot = true → t.pins.wprot = true) : s.Keeps (t.updPins f) :=
  h.of_blocks (.of_same rfl rfl rfl rfl rfl) id (.of_same rfl rfl rfl rfl rfl (.inl rfl)) (.refl _) (.refl _) wprot rfl

end

end State.Keeps

/-! ## Resets (R2, R38, R121, R135, R160, R171) -/

/-- What a part right after a reset holds, whatever its store's array. -/
structure State.IsReset (s : State) : Prop where
  line : s.line = LineState.atReset
  starting : s.run.starting
  ring : s.ring = RingState.atReset
  engine : s.engine = EngineState.atReset
  staging : s.store.staging = Memory.erased
  operation : s.store.operation = none
  load : s.store.load = none

theorem LineState.atReset_within : LineState.atReset.within := by
  refine ⟨?_, ?_, ?_, fun h m stands => ?_⟩
  · decide
  · decide
  · decide
  · cases stands

theorem RingState.atReset_matched : RingState.atReset.matched :=
  ⟨rfl, rfl, rfl, rfl⟩

theorem EngineState.atReset_ordered : EngineState.atReset.ordered :=
  ⟨⟨fun _ => by decide, fun _ => rfl⟩, ⟨by decide, ⟨fun h => (by cases h), fun h => by rcases h with h | h <;> cases h⟩⟩,
    Bank.none_legal⟩

namespace State.IsReset

variable {s : State} (h : s.IsReset)
include h

theorem banksOrdered : s.banksOrdered := by
  obtain ⟨one, legalA, legalB⟩ := EngineState.atReset_ordered
  unfold State.banksOrdered
  rw [h.engine, h.load]
  exact ⟨one, legalA, legalB, fun l held => by cases held⟩

theorem writesHeld : s.writesHeld := by
  obtain ⟨part, test, timer⟩ := h.starting
  refine ⟨fun _ => ⟨part, test, timer, h.operation, fun d held => ?_⟩, fun o going => ?_⟩
  · rw [h.ring] at held
    cases held
  · rw [h.operation] at going
    cases going

/-- A reset that keeps the memories canonical keeps every invariant. -/
theorem preserves {t : State} (powered : s.powered = t.powered)
    (canonical : t.store.canonical → s.store.canonical) : t.Preserves s where
  powered := powered
  within _ := by rw [h.line]; exact LineState.atReset_within
  legal _ := by rw [h.line]; exact ParamTable.resetValues_legal
  canonical := canonical
  light _ := by rw [h.ring]; exact RingState.atReset_matched
  banks _ := h.banksOrdered
  writes _ := h.writesHeld

end State.IsReset

theorem StoreState.atReset_canonical {t : StoreState} (h : t.canonical) (lockdown : Bool) :
    (StoreState.atReset t.interrupt.areas t.interrupt.control lockdown t.interrupt.disturbances).canonical :=
  ⟨rfl, (t.follows_interrupt.canonical h).2⟩

theorem State.softReset_isReset (s : State) : s.softReset.IsReset :=
  ⟨rfl, ⟨rfl, rfl, rfl⟩, rfl, rfl, rfl, rfl, rfl⟩

theorem State.preserves_softReset (s : State) : s.Preserves s.softReset :=
  s.softReset_isReset.preserves rfl fun h => StoreState.atReset_canonical h _

/-! ## The steps of every command -/

theorem State.Preserves.trans {s t u : State} (h : s.Preserves t) (g : t.Preserves u) : s.Preserves u :=
  ⟨g.powered.trans h.powered, fun b => g.within (h.within b), fun b => g.legal (h.legal b),
    fun b => g.canonical (h.canonical b), fun b => g.light (h.light b), fun b => g.banks (h.banks b),
    fun b => g.writes (h.writes b)⟩

/-- R164: a message leaves the line, and a reply that waited is placed. -/
theorem LineState.grows_messageSent {m : OutMessage} {rest : List OutMessage} {l : LineState}
    (queued : l.outbound = m :: rest) : l.Grows { l with onLine := none, outbound := rest }.placeWaiting := by
  have leaves : l.within → LineState.within { l with onLine := none, outbound := rest } := by
    rintro ⟨inbound, outbound, notices, waits⟩
    rw [queued] at outbound notices
    exact ⟨inbound, Nat.le_of_succ_le outbound,
      Nat.le_trans (List.Sublist.length_le ((List.sublist_cons_self m rest).filter _)) notices, waits⟩
  unfold LineState.placeWaiting
  split
  case h_1 h stands =>
    split
    case h_1 r waiting =>
      have place (reply : r.isNotice = false) := LineState.grows_place reply h { l with onLine := none, outbound := rest }
      refine ⟨?_, ?_, fun b => (place (b.2.2.2 h r stands waiting)).within (leaves b)⟩
      · unfold LineState.place
        split <;> exact fun _ => id
      · unfold LineState.place
        split <;> rfl
    case h_2 => exact ⟨fun _ => id, rfl, leaves⟩
  case h_2 => exact ⟨fun _ => id, rfl, leaves⟩

theorem State.Keeps.messageSent {s t : State} (h : s.Keeps t)
    (notReset : ∀ m, t.line.outbound.head? = some m → m.isResetReply = false) : s.Keeps t.messageSent := by
  unfold State.messageSent
  split
  case h_1 m rest _ queued =>
    split
    · split
      case isTrue reset => exact absurd reset (by simp [notReset m (by rw [queued]; rfl)])
      case isFalse => exact h.updLine (LineState.grows_messageSent queued)
    · exact h
  case h_2 => exact h

/-- R164, R170: the head message leaves the queue, or brings the soft reset. -/
theorem State.preserves_messageSent (s : State) : s.Preserves s.messageSent := by
  by_cases reset : ∃ m, s.line.outbound.head? = some m ∧ m.isResetReply = true
  · obtain ⟨m, head, reset⟩ := reset
    unfold State.messageSent
    split
    case h_1 n rest _ queued =>
      rw [queued] at head
      cases head
      split
      case isTrue => exact s.preserves_softReset
      case isFalse => exact (State.Keeps.refl s).toPreserves
    case h_2 => exact (State.Keeps.refl s).toPreserves
  · refine ((State.Keeps.refl s).messageSent fun m head => ?_).toPreserves
    exact Bool.eq_false_iff.mpr fun isReset => reset ⟨m, head, isReset⟩

/-- R167: CLEAR_CONDITIONS clears conditions and keeps every invariant. -/
theorem State.preserves_clearConditions (body : List Byte) (s : State) : s.Preserves (s.clearConditions body) := by
  unfold State.clearConditions
  dsimp only
  split
  case isTrue =>
    have clears : s.Preserves (s.updLine fun l =>
        { l with conditions := clearedConditions l.conditions (BitVec.ofNat 20 (numberAt body 0 4)) }) :=
      ⟨rfl, id, id, id, id, id, id⟩
    refine clears.trans (State.Keeps.toPreserves ?_)
    exact State.Keeps.done ((((State.Keeps.refl _).testRelease .thermal).testRelease .supply).testRelease .guard) _
  case isFalse => exact ((State.Keeps.refl s).refuse _).toPreserves

theorem State.preserves_clearRequest (tag : Byte) (body : List Byte) (s : State) :
    s.Preserves (s.request .clearConditions tag body true (State.clearConditions body)) := by
  have took := (State.Keeps.refl s).updLine (LineState.grows_take RequestKind.clearConditions.byte tag s.line)
  unfold State.request
  split
  · dsimp only
    split
    · split
      · exact took.toPreserves.trans (State.preserves_clearConditions body _)
      · exact (took.refuse _).toPreserves
    · exact (took.refuse _).toPreserves
  · exact (State.Keeps.refl s).toPreserves

/-- Every command but the resets, CLEAR_CONDITIONS and the end of the RESET reply keeps the invariants and the
conditions. -/
theorem State.keeps_stepsOf (c : Instr) (s : State) (notReset : c ≠ .resetInput)
    (notClear : ∀ tag body, c ≠ .clearConditions tag body)
    (sent : c = .messageSent → ∀ m, s.line.outbound.head? = some m → m.isResetReply = false) :
    s.Keeps (stepsOf c (s.updPins (levelOf c))) := by
  have h : (∀ p : Pins, (levelOf c p).wprot = true → p.wprot = true) → s.Keeps (s.updPins (levelOf c)) :=
    fun wprot => (State.Keeps.refl s).updPins (wprot s.pins)
  cases c with
  | resetInput => exact absurd rfl notReset
  | clearConditions tag body => exact absurd rfl (notClear tag body)
  | wprotAsserted => exact (State.Keeps.refl s).abandonLocked _ s.store.lockdown s.store.permit
  | messageSent => exact (h fun _ => id).messageSent (sent rfl)
  | wprotReleased => exact h fun _ released => by cases released
  | powerOnReset | brownout | exclAsserted => exact h fun _ => id
  | storeScanComplete => exact (h fun _ => id).scanCompleted
  | messageReceived bytes => exact (h fun _ => id).receiveBytes bytes
  | syncByteReceived => exact (h fun _ => id).receiveByte _
  | gapLimitExpiry => exact (h fun _ => id).gapExpired
  | unknownKind kind tag body => exact (h fun _ => id).unknownKind kind tag body
  | queueMessageStart => exact (h fun _ => id).startMessage
  | tileStart => exact (h fun _ => id).startTile
  | tileMessageSent => exact (h fun _ => id).tileSent
  | identify | status => exact (h fun _ => id).request fun _ keeps _ => keeps.done _
  | getParam _ body => exact (h fun _ => id).request fun _ keeps _ => keeps.getParam body
  | setParam _ body => exact (h fun _ => id).request fun _ keeps _ => keeps.setParam body
  | reset | segmentReport | monitorReport | zoneReport | slotReport | storeDirectory =>
    exact (h fun _ => id).request fun _ keeps _ => keeps.done _
  | runStart _ body => exact (h fun _ => id).request fun _ keeps _ => keeps.runStart body
  | runStop => exact (h fun _ => id).request fun _ keeps _ => keeps.runStop
  | trigger => exact (h fun _ => id).request fun _ keeps _ => keeps.hostTrigger
  | single => exact (h fun _ => id).request fun _ keeps _ => keeps.single
  | park => exact (h fun _ => id).request fun _ keeps _ => keeps.park
  | wake => exact (h fun _ => id).request fun _ keeps _ => keeps.wake
  | sleep => exact (h fun _ => id).request fun _ keeps _ => keeps.sleep
  | intervalExpiry => exact (h fun _ => id).intervalExpired
  | silenceExpiry => exact (h fun _ => id).silenceExpired
  | wakeSettleExpiry => exact (h fun _ => id).wakeSettled
  | setPosition _ body => exact (h fun _ => id).request fun _ keeps _ => keeps.setPosition body
  | quadratureChange a b time => exact (h fun _ => id).quadrature a b time
  | speedWindowExpiry | stallExpiry => exact (h fun _ => id).updTravel _
  | segmentEnable _ body | segmentDisable _ body | segmentAdmit _ body | segmentCeiling _ body =>
    exact (h fun _ => id).request fun _ keeps _ => keeps.segmentSet _ _ body
  | strobeRequest => exact (h fun _ => id).takeStrobeRequest
  | exclRelease => exact (h fun _ => id).exclusionReleased
  | deferralTimerExpiry => exact (h fun _ => id).deferralExpired
  | midStrobe senses => exact (h fun _ => id).midPoint senses
  | strobeEnd => exact (h fun _ => id).strobeEnded
  | strobeGuardExpiry => exact (h fun _ => id).guardExpired
  | scanConversionEnd code celsius => exact (h fun _ => id).scanEnded code celsius
  | strobeConversionEnd code => exact (h fun _ => id).strobeConversionEnded code
  | sensorFrameStart => exact (h fun _ => id).frameStarted
  | sensorLine samples => exact (h fun _ => id).lineReceived samples
  | sensorFrameEnd => exact (h fun _ => id).frameEnded
  | readoutLimitExpiry => exact (h fun _ => id).readoutExpired
  | balanceHold => exact (h fun _ => id).request fun _ keeps _ => (keeps.updBalance _).done _
  | balanceRelease => exact (h fun _ => id).request fun _ keeps _ => keeps.balanceRelease
  | balanceRestart => exact (h fun _ => id).request fun _ keeps _ => keeps.balanceRestart
  | releaseFrame _ body => exact (h fun _ => id).request fun _ keeps _ => keeps.releaseFrame body
  | tileCompletion => exact (h fun _ => id).tileCompleted
  | transferGrant _ body => exact (h fun _ => id).request fun _ keeps _ => keeps.transferGrant body
  | transferStopKeep _ body | transferStopRelease _ body =>
    exact (h fun _ => id).request fun _ keeps _ => keeps.transferStop _ _ body
  | loadProfileById _ body => exact (h fun _ => id).request fun _ keeps _ => keeps.loadById body
  | loadProfileByBore _ body => exact (h fun _ => id).request fun _ keeps _ => keeps.loadByBore body
  | loadEnd decayed => exact (h fun _ => id).loadEnded decayed
  | storeStage _ body => exact (h fun _ => id).request fun _ keeps _ => keeps.storeStage body
  | storePermit => exact (h fun _ => id).request fun _ keeps _ => keeps.storePermit
  | storeRevoke => exact (h fun _ => id).request fun _ keeps _ => keeps.storeRevoke
  | storeLockdown => exact (h fun _ => id).request fun _ keeps _ => keeps.storeLockdown
  | storeCommit _ body => exact (h fun _ => id).request_awake rfl fun _ keeps awake => keeps.storeCommit body awake
  | storeErase _ body => exact (h fun _ => id).request_awake rfl fun _ keeps awake => keeps.storeErase body awake
  | storeProtect _ body => exact (h fun _ => id).request_awake rfl fun _ keeps awake => keeps.storeProtect body awake
  | storeRead _ body => exact (h fun _ => id).request fun _ keeps _ => keeps.storeRead body
  | storeReadEnd => exact (h fun _ => id).storeReadEnded
  | erasingEnd unerased => exact (h fun _ => id).erasingEnded unerased
  | programmingEnd wrong => exact (h fun _ => id).programmingEnded wrong
  | verifyingEnd => exact (h fun _ => id).verifyingEnded
  | suspensionPoint => exact (h fun _ => id).suspended

/-- The event of every command keeps the invariants. -/
theorem State.preserves_stepsOf (c : Instr) (s : State) : s.Preserves (stepsOf c (s.updPins (levelOf c))) := by
  by_cases reset : c = .resetInput
  · subst reset
    exact s.preserves_softReset
  by_cases clear : ∃ tag body, c = .clearConditions tag body
  · obtain ⟨tag, body, rfl⟩ := clear
    exact s.preserves_clearRequest tag body
  by_cases sent : c = .messageSent
  · subst sent
    exact s.preserves_messageSent
  · exact (s.keeps_stepsOf c reset (fun tag body e => clear ⟨tag, body, e⟩) fun e => absurd e sent).toPreserves

/-! ## The settled invariants -/

/-- Settles O55: but for CLEAR_CONDITIONS and the resets, the event of a command keeps what is set, and so does the
placing of its notices. -/
theorem conditionsStaySet : Obligations.ConditionsStaySet := by
  intro c d s t run set notClear notPower notBrownout notReset sent
  rw [exec_eq_event notPower notBrownout, Event.runPin, Event.run] at run
  cases run
  split
  · exact ((s.keeps_stepsOf c notReset notClear sent).ended).conditions d set
  · exact set

theorem State.powerOnReset_isReset (s : State) (power : Bool) :
    State.IsReset { s.powerOnReset with powered := power } :=
  ⟨rfl, ⟨rfl, rfl, rfl⟩, rfl, rfl, rfl, rfl, rfl⟩

/-- Settles O57: the light of the ring is matched after a reset and after every event. -/
theorem stepKeepsTheLightMatched : Obligations.StepKeepsTheLightMatched := by
  intro s t matched run
  refine step_cases run (P := State.lightMatches) matched (fun rest power => ?_) (fun c rest _ => matched)
    fun c rest _ => ?_
  · exact RingState.atReset_matched
  · exact (State.preserves_stepsOf c { s with pending := rest }).light matched

/-- Settles O58: the banks are ordered after a reset and after every event. -/
theorem stepKeepsTheBanksOrdered : Obligations.StepKeepsTheBanksOrdered := by
  intro s t ordered run
  refine step_cases run (P := State.banksOrdered) ordered (fun rest power => ?_) (fun c rest _ => ordered)
    fun c rest _ => ?_
  · exact (State.powerOnReset_isReset _ power).banksOrdered
  · exact (State.preserves_stepsOf c { s with pending := rest }).banks ordered

/-- Settles O59: a part without power has no operation, and keeps none through a level on its input lines. -/
theorem stepKeepsWritesAllowed : Obligations.StepKeepsWritesAllowed := by
  intro s t allowed run
  obtain ⟨first, unpowered, writes⟩ := allowed
  refine step_cases run (P := State.writesAllowed) ⟨first, unpowered, writes⟩ (fun rest power => ?_)
    (fun c rest off => ?_) fun c rest on => ?_
  · obtain ⟨first, writes⟩ := (State.powerOnReset_isReset { s with pending := rest } power).writesHeld
    exact ⟨first, fun _ => rfl, writes⟩
  · refine ⟨first, unpowered, fun o going => ?_⟩
    have idle := unpowered off
    change s.store.operation = some o at going
    rw [idle] at going
    cases going
  · have preserves := State.preserves_stepsOf c { s with pending := rest }
    obtain ⟨first, writes⟩ := preserves.writes ⟨first, writes⟩
    refine ⟨first, fun off => ?_, writes⟩
    have power : (stepsOf c (State.updPins { s with pending := rest } (levelOf c))).powered = s.powered :=
      preserves.powered
    have off : (stepsOf c (State.updPins { s with pending := rest } (levelOf c))).powered = false := off
    rw [power, on] at off
    cases off

end Sys2Proof.Machine

/-! PROOFS. The stored forms: what every step keeps of the queues, the memories and the parameters, and why the bound of
fourteen notices needs that only a reply waits for its place. -/

namespace Sys2Proof.Machine

/-! ## What every step keeps (R162, R164, R168) -/

/-- The lines within bounds, and a reply in what waits for room. -/
theorem State.linesWithin_of_within {s : State} (within : s.line.within) (staged : s.line.staged = []) :
    s.linesWithin := by
  obtain ⟨inbound, outbound, notices, _⟩ := within
  exact ⟨inbound, outbound, notices, staged⟩

/-- R162, R164: the bounds of the queues are kept by every step of a part in which only a reply waits for its place,
and so is that. -/
theorem State.step_keeps_linesWithin {s t : State} (bounds : s.linesWithin) (waits : s.line.repliesWait)
    (run : step s = .next t) : t.linesWithin ∧ t.line.repliesWait := by
  obtain ⟨inbound, outbound, notices, staged⟩ := bounds
  have start : s.line.within := ⟨inbound, outbound, notices, waits⟩
  suffices t.line.within ∧ t.line.staged = [] from ⟨State.linesWithin_of_within this.1 this.2, this.1.2.2.2⟩
  refine step_cases run (P := fun u => u.line.within ∧ u.line.staged = []) ⟨start, staged⟩
    (fun rest power => ⟨LineState.atReset_within, rfl⟩) (fun c rest _ => ⟨start, staged⟩) fun c rest _ => ?_
  have kept := (State.preserves_stepsOf c { s with pending := rest }).within start
  exact ⟨(LineState.grows_flush _).within kept, LineState.flush_staged _⟩

/-- Every step keeps the staging buffer and the areas canonical. -/
theorem State.step_keeps_memoriesCanonical {s t : State} (canonical : s.memoriesCanonical) (run : step s = .next t) :
    t.memoriesCanonical :=
  step_cases run (P := State.memoriesCanonical) canonical
    (fun _ _ => StoreState.atReset_canonical canonical _) (fun _ _ _ => canonical)
    fun c rest _ => (State.preserves_stepsOf c { s with pending := rest }).canonical canonical

/-- R168: every step keeps the parameters legal. -/
theorem State.step_keeps_paramsLegal {s t : State} (legal : s.line.params.legal) (run : step s = .next t) :
    t.line.params.legal := by
  refine step_cases run (P := fun u => u.line.params.legal) legal (fun _ _ => ParamTable.resetValues_legal)
    (fun _ _ _ => legal) fun c rest _ => ?_
  have kept := (State.preserves_stepsOf c { s with pending := rest }).legal legal
  rw [State.ended, (LineState.grows_flush _).params]
  exact kept

/-! ## A notice that waits for a reply's place (O56) -/

/-- Two replies and fourteen notices queued, the first on the line, and a notice in the request in hand that waits for a
place: within bounds, though the part itself lets only a reply wait. -/
def State.noticeWaits : State :=
  { State.reset with
    pending := [.messageSent]
    line := { LineState.atReset with
      inHand := some { kind := 0, tag := 0, wait := .place (.notice (.storeDone 0 .ok)) }
      onLine := some { party := .queue, bytes := [] }
      outbound := .reply 0 0 (.done .nothing) :: .reply 0 0 (.done .nothing) ::
        List.replicate 14 (.notice (.storeDone 0 .ok)) } }

/-- Refutes O56: the end of the message on the line makes room, and the waiting notice is the fifteenth. -/
theorem not_stepKeepsTheStoredFormsLegal : ¬ Obligations.StepKeepsTheStoredFormsLegal := by
  rintro ⟨bounds, _⟩
  have start : State.noticeWaits.linesWithin := by
    unfold State.linesWithin
    decide
  obtain ⟨t, run, past⟩ : ∃ t, step State.noticeWaits = .next t ∧
      (t.line.outbound.filter OutMessage.isNotice).length = 15 := ⟨_, rfl, by decide⟩
  obtain ⟨_, _, notices, _⟩ := bounds _ t start run
  omega

end Sys2Proof.Machine

/-! PROOFS. The requests of the line: what screens every request (R1, R174), the kinds that are not defined (R175),
IDENTIFY and STATUS (R169), the parameters (R168), CLEAR_CONDITIONS (R167) and RESET (R170). -/

namespace Sys2Proof.Machine

/-! ## Every request (R1, R163, R174) -/

/-- A well-formed body spells its own row of the table. -/
theorem Event.run_fitting {kind : RequestKind} {tag : Byte} {body : List Byte} {fits arrives : Bool}
    {rule : State → State} {s : State} (formed : (fits && arrives) = true) :
    Event.run s (State.request kind tag body fits rule) = Event.run s (State.request kind tag body true rule) := by
  rw [(Bool.and_eq_true_iff.mp formed).1]

/-- A request row is the one event of a request, with a rule of its own. -/
theorem exec_request {c : Instr} {k : RequestKind} {tag : Byte} {body : List Byte}
    (row : requestOf c = some (k, tag, body)) (formed : c.wellFormed = true) (s : State) :
    ∃ rule, exec c s = Event.run s (State.request k tag body true rule) := by
  cases c with
  | segmentEnable | segmentDisable | segmentAdmit | segmentCeiling | transferStopKeep | transferStopRelease
  | loadProfileById | loadProfileByBore =>
    cases row
    exact ⟨_, Event.run_fitting formed⟩
  | identify | status | getParam | setParam | clearConditions | reset | runStart | runStop | trigger | single | park
  | wake | sleep | setPosition | segmentReport | monitorReport | balanceHold | balanceRelease | balanceRestart
  | zoneReport | releaseFrame | slotReport | transferGrant | storeStage | storePermit | storeRevoke | storeLockdown
  | storeCommit | storeErase | storeProtect | storeRead | storeDirectory =>
    cases row
    exact ⟨_, rfl⟩
  | _ => cases row

/-- R164: a refused reply never stops the decoder. -/
theorem State.refuse_taken_of_any (k : RequestKind) (tag : Byte) (r : Reason) (s : State) :
    (s.updLine (LineState.take k.byte tag)).refuse r = s.withRefusal k tag r :=
  congrArg (fun l => { s with line := l }) (LineState.place_take rfl k.byte tag s.line)

/-- R1: the part states that do not answer a request are those that screen it. -/
theorem RequestKind.answeredIn_false_iff (k : RequestKind) (p : PartState) :
    k.answeredIn p = false ↔ screened p k := by
  cases p <;> cases k <;> simp [RequestKind.answeredIn, screened]

/-- Settles O2. -/
theorem screenedRequestIsRefusedWrongState : Obligations.ScreenedRequestIsRefusedWrongState := by
  intro c k tag body s row formed taken screened
  obtain ⟨rule, event⟩ := exec_request row formed s
  rw [event, Event.run_powered taken.1.1,
    State.request_screened taken ((RequestKind.answeredIn_false_iff k s.run.part).mpr screened),
    State.refuse_taken_of_any, State.withRefusal_ended taken.1]

/-! ## The length of the body (R174) -/

/-- R173: two bytes inside a body are one number. -/
theorem numberAt_two {body : List Byte} {k : Nat} (inside : k + 2 ≤ body.length) :
    numberAt body k 2 = le2 (body.getD k 0) (body.getD (k + 1) 0) := by
  have first : k < body.length := by omega
  have second : k + 1 < body.length := by omega
  simp only [numberAt, fieldAt, List.drop_eq_getElem_cons first, List.drop_eq_getElem_cons second,
    List.take_succ_cons, List.take_zero, natOf, le2, List.getD_eq_getElem _ _ first, List.getD_eq_getElem _ _ second]
  omega

/-- R174: the body that fits no row of the table. -/
theorem RequestKind.bodyFits_false {k : RequestKind} {body : List Byte}
    (fixed : k ≠ .storeStage → k.bodyLength ≠ some body.length)
    (stated : k = .storeStage → body.length < 4 ∨ body.length ≠ 4 + le2 (body.getD 2 0) (body.getD 3 0)) :
    k.bodyFits body = false := by
  unfold RequestKind.bodyFits
  cases length : k.bodyLength with
  | some n =>
    have notStage : k ≠ .storeStage := by
      rintro rfl
      cases length
    exact decide_eq_false fun same => fixed notStage (same ▸ length)
  | none =>
    have stage : k = .storeStage := by
      cases k with
      | storeStage => rfl
      | _ => cases length
    rw [Bool.and_eq_false_iff, decide_eq_false_iff_not, decide_eq_false_iff_not]
    rcases stated stage with short | other
    · exact .inl (Nat.not_le.mpr short)
    · by_cases long : 4 ≤ body.length
      · exact .inr (numberAt_two (k := 2) long ▸ other)
      · exact .inl long

/-- R174: a body of the wrong length is refused in every part state that answers the request. -/
theorem State.request_malformed {k : RequestKind} {tag : Byte} {body : List Byte} {s : State}
    (h : s.takes k.byte tag body) (answered : k.answeredIn s.run.part = true) (length : k.bodyFits body = false)
    (rule : State → State) :
    s.request k tag body true rule = (s.updLine (LineState.take k.byte tag)).refuse .malformed := by
  simp [State.request, State.canTake_of_takes h, answered, length]

/-- Settles O3. -/
theorem bodyLengthsAreTested : Obligations.BodyLengthsAreTested := by
  refine ⟨rfl, fun c k tag body s row formed taken handled fixed stated => ?_⟩
  obtain ⟨rule, event⟩ := exec_request row formed s
  have answered : k.answeredIn s.run.part = true :=
    Bool.of_not_eq_false fun rejects => handled ((RequestKind.answeredIn_false_iff k s.run.part).mp rejects)
  rw [event, Event.run_powered taken.1.1,
    State.request_malformed taken answered (RequestKind.bodyFits_false fixed stated),
    State.refuse_taken_of_any, State.withRefusal_ended taken.1]

/-! ## A kind that is not defined (R163, R175) -/

/-- Settles O4. -/
theorem undefinedKindIsRefusedUnknownKind : Obligations.UndefinedKindIsRefusedUnknownKind := by
  intro kind tag body s taken undefined
  have notRequest : isRequestCode kind = false := by
    simp only [isRequestCode, Bool.and_eq_false_iff, decide_eq_false_iff_not]
    omega
  have answers : s.unknownKind kind tag body =
      { s with line := s.line.withMessage kind tag (.reply 0xFF tag (.unknownKind kind)) } := by
    rw [State.unknownKind, State.canTake_of_takes taken, notRequest]
    exact congrArg (fun l => { s with line := l }) 
      (LineState.place_take (m := .reply 0xFF tag (.unknownKind kind)) rfl kind tag s.line)
  change Event.run s (State.unknownKind kind tag body) = _
  rw [Event.run_powered taken.1.1, answers]
  refine congrArg Host.Outcome.next (State.ended_of_no_notice ?_)
  exact (LineState.withMessage_staged _ _ _ s.line).trans taken.1.2

/-! ## IDENTIFY and STATUS (R169) -/

/-- A request that every part state answers, and that leaves the part as it is, is answered as the part stands. -/
theorem Event.run_answered {kind : RequestKind} {tag : Byte} {body : List Byte} {s : State} {rule : State → State}
    {r : Result} (h : s.takes kind.byte tag body) (answered : kind.answeredIn s.run.part = true)
    (notReset : kind ≠ .reset) (fits : kind.bodyFits body = true)
    (answers : rule (s.updLine (LineState.take kind.byte tag)) = (s.updLine (LineState.take kind.byte tag)).done r) :
    Event.run s (State.request kind tag body true rule) = .next (s.withDone kind tag r) := by
  rw [Event.run_powered h.1.1, State.request_answered h answered fits, answers, State.done_taken notReset]
  exact congrArg Host.Outcome.next (State.withReply_ended h.1 _ _ _)

theorem RequestKind.identify_answered (p : PartState) : RequestKind.identify.answeredIn p = true := by
  cases p <;> rfl

theorem RequestKind.status_answered (p : PartState) : RequestKind.status.answeredIn p = true := by
  cases p <;> rfl

/-- R6: STATUS reports the open run, or else the last one. -/
theorem RunState.reported_open {r : RunState} {x : RunRecord} (opened : r.current = some x) : r.reported = some x := by
  rw [RunState.reported, opened]

theorem RunState.reported_closed {r : RunState} (closed : r.current = none) : r.reported = r.last := by
  rw [RunState.reported, closed]

/-- Settles O5. -/
theorem identifyAndStatusAreAnswered : Obligations.IdentifyAndStatusAreAnswered := by
  intro tag s
  constructor
  · intro taken
    exact Event.run_answered (kind := .identify) taken (RequestKind.identify_answered _) (by decide) rfl rfl
  · intro taken
    refine ⟨s.statusReport,
      Event.run_answered (kind := .status) taken (RequestKind.status_answered _) (by decide) rfl rfl, rfl,
      fun x => RunState.reported_open, RunState.reported_closed, rfl, rfl, rfl, fun i => ?_, rfl, rfl, rfl, rfl, rfl,
      rfl, rfl, rfl, rfl, rfl, rfl, rfl, rfl⟩
    exact Table.get_map _ _ _

end Sys2Proof.Machine

/-! PROOFS. The parameters (R168), CLEAR_CONDITIONS (R167) and RESET (R170). -/

namespace Sys2Proof.Machine

/-! ## The parameters (R168, R29) -/

theorem numberAt_head (b : Byte) (body : List Byte) : numberAt (b :: body) 0 1 = b.toNat :=
  numberAt_one rfl

/-- R168: only a parameter's own id names it. -/
theorem Param.index_of_ofId {id : Nat} {p : Param} (named : Param.ofId id = some p) : id = p.index.val + 1 := by
  unfold Param.ofId at named
  split at named <;> cases named <;> rfl

/-- R168: the ids are 1 to 28. -/
theorem Param.ofId_outside {id : Nat} (outside : id = 0 ∨ 28 < id) : Param.ofId id = none := by
  cases named : Param.ofId id with
  | none => rfl
  | some p =>
    have inside := p.index.isLt
    have same := Param.index_of_ofId named
    omega

theorem Param.ofId_of_index {id : Nat} {p : Param} (named : id = p.index.val + 1) : Param.ofId id = some p :=
  named ▸ p.ofId_index

/-- Settles O8. -/
theorem parametersAreReadInTheirRanges : Obligations.ParametersAreReadInTheirRanges := by
  refine ⟨fun tag id s handled => ⟨fun p named => ?_, fun outside => ?_⟩, fun v => ?_, fun p => ?_⟩
  · refine Event.run_done handled (by decide) rfl handled.1.1 ?_
    rw [State.getParam, numberAt_head, Param.ofId_of_index named]
    rfl
  · refine Event.run_refused handled (by decide) rfl ?_
    rw [State.getParam, numberAt_head, Param.ofId_outside outside]
  · simp [Param.inRange, Nat.le_one_iff_eq_zero_or_eq_one]
  · cases p <;> rfl

/-- R168, R29: the part after an accepted SET_PARAM. -/
theorem State.putParam_eq (p : Param) (v : Nat) (s : State) :
    s.putParam p v = { s with
      line := { s.line with params := s.line.params.put p v }
      travel :=
        if p = Param.triggerSpacing then { s.travel with countdown := s.travel.countdown.map fun c => min c v }
        else s.travel } := by
  unfold State.putParam
  split <;> rfl

/-- Settles O7. -/
theorem setParamWritesTheTable : Obligations.SetParamWritesTheTable := by
  refine ⟨ParamTable.value_put, fun tag id b0 b1 b2 b3 s handled => ⟨fun outside => ?_, fun p named => ?_⟩⟩
  · refine Event.run_refused handled (by decide) rfl ?_
    rw [State.setParam, numberAt_head, Param.ofId_outside outside]
  · have value : numberAt [id, b0, b1, b2, b3] 1 4 = le4 b0 b1 b2 b3 := numberAt_four b0 b1 b2 b3 []
    constructor
    · intro rejected
      refine Event.run_refused handled (by decide) rfl ?_
      rw [State.setParam, numberAt_head, Param.ofId_of_index named, value]
      exact if_neg ((ParamTable.accepts_iff _ _ _).not.mpr rejected)
    · intro accepted
      refine Event.run_done handled (by decide) rfl handled.1.1 ?_
      rw [State.setParam, numberAt_head, Param.ofId_of_index named, value]
      refine (if_pos ((ParamTable.accepts_iff _ _ _).mpr accepted)).trans ?_
      rw [State.putParam_eq]
      rfl

/-! ## CLEAR_CONDITIONS (R167, R53) -/

theorem LockoutSet.put_holds (l : LockoutSet) (r : LockoutReason) : l.put r (l.holds r) = l := by
  cases r <;> rfl

/-- R53: a reason stays in the lockout set while its flag is set or its cause goes on. -/
theorem State.testRelease_eq (r : LockoutReason) (s : State) :
    s.testRelease r = { s with
      ring := { s.ring with
        lockout := s.ring.lockout.put r
          (s.ring.lockout.holds r && (r.condition.isIn s.line.conditions || !s.causeEnded r)) } } := by
  unfold State.testRelease
  cases r.condition.isIn s.line.conditions <;> cases s.causeEnded r <;>
    simp [State.updRing, LockoutSet.put_holds]

/-- R53: what the tests of the three reasons leave of the lockout set. -/
def State.lockoutLeft (s : State) : LockoutSet where
  thermal := s.ring.lockout.thermal && (s.line.conditions.getLsbD 9 || !s.causeEnded .thermal)
  supply := s.ring.lockout.supply && (s.line.conditions.getLsbD 7 || !s.causeEnded .supply)
  guard := s.ring.lockout.guard && s.line.conditions.getLsbD 10

theorem State.testAllReleases_eq (s : State) :
    s.testAllReleases = { s with ring := { s.ring with lockout := s.lockoutLeft } } := by
  have guarded : (s.line.conditions.getLsbD 10 || false) = s.line.conditions.getLsbD 10 := Bool.or_false _
  rw [State.testAllReleases, State.testRelease_eq, State.testRelease_eq, State.testRelease_eq, State.lockoutLeft,
    ← guarded]
  rfl

/-- R167: the part with the flags of a mask cleared. -/
def State.flagsCleared (mask : Nat) (s : State) : State :=
  s.updLine fun l => { l with conditions := clearedConditions l.conditions (BitVec.ofNat 20 mask) }

theorem State.clearFlags_eq (mask : Nat) (s : State) :
    s.clearFlags mask = { s.flagsCleared mask with
      ring := { s.ring with lockout := (s.flagsCleared mask).lockoutLeft } } :=
  State.testAllReleases_eq _

/-- R167: a flag stays set unless the mask names it. -/
theorem clearedConditions_getLsbD (set : BitVec 20) (mask : Nat) {n : Nat} (inside : n < 20) :
    (clearedConditions set (BitVec.ofNat 20 mask)).getLsbD n = (set.getLsbD n && !mask.testBit n) := by
  rw [clearedConditions, BitVec.getLsbD_and, BitVec.getLsbD_not, BitVec.getLsbD_ofNat]
  simp [inside]

/-- Settles O9. -/
theorem clearConditionsClearsAndReleases : Obligations.ClearConditionsClearsAndReleases := by
  intro tag b0 b1 b2 b3 s handled mask
  have named : numberAt [b0, b1, b2, b3] 0 4 = mask := numberAt_four b0 b1 b2 b3 []
  constructor
  · intro past
    refine Event.run_refused handled (by decide) rfl ?_
    rw [State.clearConditions, named]
    exact if_neg (Nat.not_lt.mpr past)
  · intro inside
    refine ⟨(s.flagsCleared mask).line.conditions, (s.flagsCleared mask).lockoutLeft, ?_,
      fun n bit => clearedConditions_getLsbD _ mask bit, rfl, rfl, rfl⟩
    refine Event.run_done handled (by decide) rfl handled.1.1 ?_
    rw [State.clearConditions, named]
    refine (if_pos inside).trans ?_
    rw [State.clearFlags_eq]
    rfl

/-! ## RESET (R170) -/

theorem LineState.place_staged (h : InHand) (m : OutMessage) (l : LineState) : (l.place h m).staged = l.staged := by
  unfold LineState.place
  split <;> rfl

/-- R175: a DONE reply of the message just taken. -/
theorem LineState.done_take (kind tag : Byte) (r : Result) (l : LineState) :
    (l.take kind tag).answer (.done r) =
      (l.take kind tag).place { kind := kind, tag := tag, wait := .handling } (.reply (kind + 0x80) tag (.done r)) :=
  rfl

/-- Settles O11. -/
theorem resetRequestStopsTheDecoder : Obligations.ResetRequestStopsTheDecoder := by
  intro tag s handled
  change Event.run s (State.request .reset tag [] true fun t => t.done .nothing) = _
  have code : RequestKind.reset.byte = 0x06 := rfl
  have reply : (0x06 : Byte) + 0x80 = 0x86 := by decide
  rw [Event.run_handled handled rfl, State.done, State.answer, State.updLine, State.updLine, LineState.done_take, code,
    reply, State.ended_of_no_notice ((LineState.place_staged _ _ (s.line.take 0x06 tag)).trans handled.1.1.2)]
  by_cases room : s.line.outbound.length < 16 <;> simp [LineState.place, LineState.take, room, OutMessage.isResetReply]

end Sys2Proof.Machine

/-! PROOFS. Conditions and notices (R164, R166), the receiver (R161, R162), and the line between its two parties (R140,
R164). -/

namespace Sys2Proof.Machine

/-! ## Conditions (R166) -/

theorem Condition.bit_lt (c : Condition) : c.bit < 20 := by
  cases c <;> decide

theorem Condition.ofNat_bit (c : Condition) : Condition.ofNat c.bit = c := by
  cases c <;> rfl

theorem Condition.bit_inj {c d : Condition} : d.bit = c.bit ↔ d = c := by
  refine ⟨fun same => ?_, congrArg _⟩
  rw [← d.ofNat_bit, same, c.ofNat_bit]

/-- R173: the set of one condition has its bit alone. -/
theorem Condition.isIn_mask (c d : Condition) : d.isIn c.mask = decide (d = c) := by
  have inside := d.bit_lt
  rw [Condition.isIn, Condition.mask, BitVec.getLsbD_shiftLeft, BitVec.getLsbD_one, Bool.eq_iff_iff]
  simp only [← Condition.bit_inj (c := c) (d := d), Bool.and_eq_true, Bool.not_eq_true', decide_eq_true_eq,
    decide_eq_false_iff_not]
  omega

/-- R166: a condition added is in the set, beside those that were. -/
theorem Condition.isIn_addTo (c d : Condition) (set : BitVec 20) :
    d.isIn (c.addTo set) = (d.isIn set || decide (d = c)) := by
  rw [← c.isIn_mask d, Condition.isIn, Condition.addTo, BitVec.getLsbD_or]
  rfl

/-- R166: a condition that is set is added with no effect. -/
theorem Condition.addTo_of_isIn {c : Condition} {set : BitVec 20} (held : c.isIn set = true) : c.addTo set = set := by
  have mask (n : Nat) : c.mask.getLsbD n = true → n = c.bit := by
    rw [Condition.mask, BitVec.getLsbD_shiftLeft, BitVec.getLsbD_one]
    simp only [Bool.and_eq_true, Bool.not_eq_true', decide_eq_true_eq, decide_eq_false_iff_not]
    omega
  refine BitVec.eq_of_getLsbD_eq fun n _ => ?_
  rw [Condition.addTo, BitVec.getLsbD_or]
  cases bit : c.mask.getLsbD n with
  | false => exact Bool.or_false _
  | true => rw [mask n bit, Bool.or_true]; exact held.symm

theorem Condition.addTo_addTo (c : Condition) (set : BitVec 20) : c.addTo (c.addTo set) = c.addTo set := by
  rw [Condition.addTo, Condition.addTo, BitVec.or_assoc, BitVec.or_self]

theorem LineState.raise_of_isIn {c : Condition} {l : LineState} (held : c.isIn l.conditions = true) : l.raise c = l :=
  if_pos held

theorem LineState.raise_of_clear {c : Condition} {l : LineState} (clear : c.isIn l.conditions = false) :
    l.raise c = { l with
      conditions := c.addTo l.conditions
      staged :=
        if c ≠ .noticeLost ∧ (l.params.value .noticeMask).testBit c.bit = true then
          l.staged ++ [.condition c (c.addTo l.conditions)]
        else l.staged } :=
  if_neg (by simp [clear])

/-! ## Notices placed at the end of an event (R164) -/

/-- R164: NOTICE_LOST raised queues no notice. -/
theorem LineState.raise_noticeLost (l : LineState) :
    l.raise .noticeLost = { l with conditions := Condition.addTo .noticeLost l.conditions } := by
  cases held : Condition.isIn .noticeLost l.conditions with
  | true => rw [LineState.raise_of_isIn held, Condition.addTo_of_isIn held]
  | false => simp [LineState.raise_of_clear held]

/-- R164: the notices of an event, in the order in which they were queued. -/
theorem LineState.foldl_placeNotice (notices : List Notice) (l : LineState) :
    notices.foldl LineState.placeNotice l = { l with
      outbound := l.outbound ++ (notices.take (14 - l.outbound.length)).map OutMessage.notice
      conditions :=
        if 14 - l.outbound.length < notices.length then Condition.addTo .noticeLost l.conditions
        else l.conditions } := by
  induction notices generalizing l with
  | nil => simp
  | cons n rest ih =>
    rw [List.foldl_cons, ih]
    unfold LineState.placeNotice
    by_cases room : l.outbound.length < 14
    · obtain ⟨k, left⟩ : ∃ k, 14 - l.outbound.length = k + 1 := ⟨13 - l.outbound.length, by omega⟩
      have less : 14 - (l.outbound ++ [OutMessage.notice n]).length = k := by
        rw [List.length_append, List.length_singleton]
        omega
      simp only [if_pos room, less, left, List.take_succ_cons, List.map_cons, List.append_assoc, List.singleton_append,
        List.length_cons, Nat.add_lt_add_iff_right]
    · have full : 14 - l.outbound.length = 0 := by omega
      simp [room, LineState.raise_noticeLost, full, Condition.addTo_addTo]

/-- Settles O10. -/
theorem conditionsAndNoticesAreQueued : Obligations.ConditionsAndNoticesAreQueued := by
  refine ⟨fun c l => ⟨LineState.raise_of_isIn, fun clear => ⟨c.addTo l.conditions, fun d => c.isIn_addTo d _, ?_⟩⟩,
    fun l => LineState.foldl_placeNotice l.staged { l with staged := [] }⟩
  exact LineState.raise_of_clear clear

end Sys2Proof.Machine

/-! PROOFS. The receiver (R161), the inbound buffer (R162) and the restart of the silence timer (R19). -/

namespace Sys2Proof.Machine

/-! ## What gathered bytes come to (R161) -/

/-- R161: the bytes gathered after SYNC that go on being gathered. -/
def incomplete (bytes : List Byte) : Prop :=
  bytes.length < 2 ∨ (2 ≤ lengthOf bytes ∧ lengthOf bytes ≤ 300 ∧ bytes.length < 4 + lengthOf bytes)

theorem State.gathered_incomplete {bytes : List Byte} (goesOn : incomplete bytes) (s : State) :
    s.gathered bytes = s.updLine fun l => { l with receiver := .receiving bytes } := by
  unfold State.gathered
  by_cases short : bytes.length < 2
  · exact if_pos short
  · obtain ⟨low, high, less⟩ := goesOn.resolve_left short
    rw [if_neg short, if_neg (by omega), if_pos less]

theorem State.gathered_badLength {bytes : List Byte} (two : 2 ≤ bytes.length)
    (bad : lengthOf bytes < 2 ∨ 300 < lengthOf bytes) (s : State) :
    s.gathered bytes = s.updLine LineState.discardMessage := by
  rw [State.gathered, if_neg (Nat.not_lt.mpr two), if_pos bad]

theorem State.gathered_whole {bytes : List Byte} (low : 2 ≤ lengthOf bytes) (high : lengthOf bytes ≤ 300)
    (whole : bytes.length = 4 + lengthOf bytes) (s : State) :
    s.gathered bytes =
      if checkPasses bytes then
        (s.updLine fun l => LineState.offer (messageOf bytes) { l with receiver := .hunting }).restartSilence
      else s.updLine LineState.discardMessage := by
  rw [State.gathered, if_neg (by omega), if_neg (by omega), if_neg (by omega)]

/-- R161: the two LENGTH bytes. -/
theorem lengthOf_eq {bytes : List Byte} (two : 2 ≤ bytes.length) :
    lengthOf bytes = le2 (bytes.getD 0 0) (bytes.getD 1 0) :=
  numberAt_two (k := 0) two

/-- R161, R172: the two CHECK bytes of a whole message. -/
theorem checkPasses_iff {bytes : List Byte} (whole : bytes.length = 4 + lengthOf bytes) :
    checkPasses bytes = true ↔ (crc16 (bytes.take (2 + lengthOf bytes))).toNat =
      le2 (bytes.getD (2 + lengthOf bytes) 0) (bytes.getD (3 + lengthOf bytes) 0) := by
  have check : natOf (bytes.drop (2 + lengthOf bytes)) = numberAt bytes (2 + lengthOf bytes) 2 := by
    rw [numberAt, fieldAt, List.take_of_length_le (by rw [List.length_drop]; omega)]
  have last : 3 + lengthOf bytes = 2 + lengthOf bytes + 1 := Nat.add_right_comm 2 1 _
  rw [checkPasses, decide_eq_true_iff, check, numberAt_two (by omega), last]

/-! ## One byte (R161) -/

theorem exec_messageReceived {s : State} (h : s.between) (bytes : List Byte) :
    exec (.messageReceived bytes) s = .next (bytes.foldl State.receiveByte s).ended :=
  Event.run_powered h.1 fun t => bytes.foldl State.receiveByte t

theorem State.receiveByte_receiving {bytes : List Byte} {s : State} (receiving : s.line.receiver = .receiving bytes)
    (b : Byte) : s.receiveByte b = s.gathered (bytes ++ [b]) := by
  rw [State.receiveByte, receiving]

theorem State.receiveByte_hunting {s : State} (hunts : s.line.receiver = .hunting) (b : Byte) :
    s.receiveByte b = if b = 0xA5 then s.updLine fun l => { l with receiver := .receiving [] } else s := by
  rw [State.receiveByte, hunts]

/-- Settles O13. -/
theorem receiverHuntsGathersAndDiscards : Obligations.ReceiverHuntsGathersAndDiscards := by
  intro b bytes s h discarded gathered length
  constructor
  · intro hunts
    refine ⟨fun other => ?_, ?_, ?_⟩
    · rw [exec_messageReceived h, List.foldl_cons, List.foldl_nil, State.receiveByte_hunting hunts, if_neg other,
        State.ended_of_no_notice h.2]
    · change Event.run s (fun t => t.receiveByte 0xA5) = _
      rw [Event.run_powered h.1, State.receiveByte_hunting hunts, if_pos rfl, State.ended_of_no_notice]
      · rfl
      · exact h.2
    · change Event.run s State.gapExpired = _
      rw [Event.run_powered h.1, State.gapExpired, hunts]
      exact congrArg _ (State.ended_of_no_notice h.2)
  · intro receiving
    have event : exec (.messageReceived [b]) s = .next (s.gathered gathered).ended := by
      rw [exec_messageReceived h, List.foldl_cons, List.foldl_nil, State.receiveByte_receiving receiving]
    refine ⟨?_, fun goesOn => ?_, fun two bad => ?_, fun low high whole fails => ?_, rfl⟩
    · change Event.run s State.gapExpired = _
      rw [Event.run_powered h.1, State.gapExpired, receiving]
      rfl
    · have inside : incomplete gathered := by
        rcases goesOn with short | ⟨low, high, less⟩
        · exact .inl short
        · by_cases short : gathered.length < 2
          · exact .inl short
          · have same : lengthOf gathered = length := lengthOf_eq (Nat.not_lt.mp short)
            exact .inr (same ▸ ⟨low, high, less⟩)
      rw [event, State.gathered_incomplete inside, State.ended_of_no_notice]
      · rfl
      · exact h.2
    · rw [event, State.gathered_badLength two (lengthOf_eq two ▸ bad)]
      rfl
    · have same : lengthOf gathered = length := lengthOf_eq (by omega)
      have fails : ¬ checkPasses gathered = true := by
        rw [checkPasses_iff (same ▸ whole), same]
        exact fails
      rw [event, State.gathered_whole (same ▸ low) (same ▸ high) (same ▸ whole), if_neg fails]
      rfl

/-! ## A whole message (R161, R162, R19) -/

theorem natOf_bytesOf {n v : Nat} (fits : v < 256 ^ n) : natOf (bytesOf n v) = v := by
  induction n generalizing v with
  | zero =>
    rw [Nat.lt_one_iff.mp fits]
    rfl
  | succ n ih =>
    have rest : v / 256 < 256 ^ n := by
      rw [Nat.div_lt_iff_lt_mul (by decide)]
      rwa [← Nat.pow_succ]
    rw [bytesOf, natOf, ih rest, BitVec.toNat_ofNat]
    omega

theorem length_bytesOf (n v : Nat) : (bytesOf n v).length = n := by
  induction n generalizing v with
  | zero => rfl
  | succ n ih => rw [bytesOf, List.length_cons, ih]

/-- R161: bytes that never complete a message are all gathered. -/
theorem State.foldl_receiveByte {bytes : List Byte} {s : State}
    (inside : ∀ part, part <+: bytes → incomplete part) (receiving : s.line.receiver = .receiving []) :
    bytes.foldl State.receiveByte s = s.updLine fun l => { l with receiver := .receiving bytes } := by
  induction bytes using List.reverseRecOn with
  | nil =>
    obtain ⟨pending, powered, pins, line⟩ := s
    obtain ⟨receiver⟩ := line
    cases receiving
    rfl
  | append_singleton bytes b ih =>
    have before := ih fun part within => inside part (within.trans (List.prefix_append _ _))
    rw [List.foldl_append, before, List.foldl_cons, List.foldl_nil,
      State.receiveByte_receiving (bytes := bytes) rfl, State.gathered_incomplete (inside _ (List.prefix_refl _))]
    rfl

/-- R172: LENGTH through BODY of a message. -/
def spanOf (kind tag : Byte) (body : List Byte) : List Byte :=
  bytesOf 2 (2 + body.length) ++ [kind, tag] ++ body

/-- Section 12.1: what of an envelope follows SYNC. -/
def gatheredOf (kind tag : Byte) (body : List Byte) : List Byte :=
  spanOf kind tag body ++ bytesOf 2 (crc16 (spanOf kind tag body)).toNat

theorem envelope_eq (kind tag : Byte) (body : List Byte) : envelope kind tag body = 0xA5 :: gatheredOf kind tag body :=
  rfl

theorem length_spanOf (kind tag : Byte) (body : List Byte) : (spanOf kind tag body).length = 4 + body.length := by
  rw [spanOf, List.length_append, List.length_append, length_bytesOf, List.length_cons, List.length_singleton]

theorem length_gatheredOf (kind tag : Byte) (body : List Byte) :
    (gatheredOf kind tag body).length = 6 + body.length := by
  rw [gatheredOf, List.length_append, length_bytesOf, length_spanOf]
  omega

section Whole

variable (kind tag : Byte) {body : List Byte} (short : body.length ≤ 298)
include short

theorem lengthOf_prefix {part : List Byte} (within : part <+: gatheredOf kind tag body) (two : 2 ≤ part.length) :
    lengthOf part = 2 + body.length := by
  have front : part.take 2 = bytesOf 2 (2 + body.length) := by
    rw [List.prefix_iff_eq_take.mp within, List.take_take, Nat.min_eq_left two]
    rfl
  rw [lengthOf, front, natOf_bytesOf (by omega)]

/-- R161: a message is gathered up to its last byte. -/
theorem incomplete_prefix {part : List Byte} (within : part <+: gatheredOf kind tag body)
    (less : part.length < 6 + body.length) : incomplete part := by
  by_cases two : 2 ≤ part.length
  · have length := lengthOf_prefix kind tag short within two
    exact .inr (by omega)
  · exact .inl (Nat.not_le.mp two)

theorem lengthOf_gatheredOf : lengthOf (gatheredOf kind tag body) = 2 + body.length :=
  lengthOf_prefix kind tag short (List.prefix_refl _) (by rw [length_gatheredOf]; omega)

theorem checkPasses_gatheredOf : checkPasses (gatheredOf kind tag body) = true := by
  have length : 2 + (2 + body.length) = (spanOf kind tag body).length := by
    rw [length_spanOf]
    omega
  rw [checkPasses, lengthOf_gatheredOf kind tag short, length, gatheredOf, List.take_left, List.drop_left,
    natOf_bytesOf (BitVec.isLt _)]
  exact decide_eq_true rfl

theorem messageOf_gatheredOf : messageOf (gatheredOf kind tag body) = { kind := kind, tag := tag, body := body } := by
  have behind : (gatheredOf kind tag body).drop 4 = body ++ bytesOf 2 (crc16 (spanOf kind tag body)).toNat := rfl
  rw [messageOf, lengthOf_gatheredOf kind tag short, behind, Nat.add_sub_cancel_left, List.take_left]
  rfl

/-- R161, R162: the bytes of one good message after SYNC. -/
theorem State.foldl_gatheredOf {s : State} (receiving : s.line.receiver = .receiving []) :
    (gatheredOf kind tag body).foldl State.receiveByte s =
      (s.updLine fun l => LineState.offer { kind := kind, tag := tag, body := body }
        { l with receiver := .hunting }).restartSilence := by
  obtain ⟨front, last, whole⟩ : ∃ front last, gatheredOf kind tag body = front ++ [last] :=
    ⟨_, _, (List.append_assoc (spanOf kind tag body) [_] [_]).symm⟩
  have size : (front ++ [last]).length = 6 + body.length := whole ▸ length_gatheredOf kind tag body
  rw [List.length_append, List.length_singleton] at size
  have length := lengthOf_gatheredOf kind tag short
  have inside : ∀ part, part <+: front → incomplete part := fun part within => by
    refine incomplete_prefix kind tag short (whole ▸ within.trans (List.prefix_append _ _)) ?_
    have := within.length_le
    omega
  rw [whole, List.foldl_append, State.foldl_receiveByte inside receiving, List.foldl_cons, List.foldl_nil,
    State.receiveByte_receiving (bytes := front) rfl, ← whole, State.gathered_whole (by omega) (by omega)
      (by rw [length_gatheredOf]; omega), if_pos (checkPasses_gatheredOf kind tag short),
    messageOf_gatheredOf kind tag short]
  rfl

end Whole

/-- A receiver that hunts is as it stood before the message. -/
theorem LineState.hunting_again {l : LineState} (hunts : l.receiver = .hunting) : { l with receiver := .hunting } = l := by
  rw [← hunts]

/-- R164: with no notice queued, the end of an event leaves the line. -/
theorem LineState.flush_of_no_notice {l : LineState} (quiet : l.staged = []) : l.flush = l := by
  rw [LineState.flush, quiet, List.foldl_nil, ← quiet]

/-- R19: what a good message leaves in the buffer and in the silence timer. -/
theorem State.restartSilence_offer (m : Message) (s : State) :
    State.restartSilence { s with line := s.line.offer m } = { s with
      line := s.line.offer m
      run := { s.run with
        silenceTimer :=
          if s.line.params.value .silenceTimeout = 0 then none else some (s.line.params.value .silenceTimeout) } } := by
  rw [State.restartSilence, State.param, (LineState.grows_offer m s.line).params]
  rfl

/-- Settles O12. -/
theorem goodMessageReachesTheBuffer : Obligations.GoodMessageReachesTheBuffer := by
  intro kind tag body s h hunts short
  have offered : State.updLine (s.updLine fun l => { l with receiver := .receiving [] })
      (fun l => LineState.offer { kind := kind, tag := tag, body := body } { l with receiver := .hunting }) =
      { s with line := s.line.offer { kind := kind, tag := tag, body := body } } :=
    congrArg (fun l : LineState => { s with line := l.offer { kind := kind, tag := tag, body := body } })
      (LineState.hunting_again hunts)
  rw [exec_messageReceived h, envelope_eq, List.foldl_cons, State.receiveByte_hunting hunts, if_pos rfl,
    State.foldl_gatheredOf kind tag short rfl, offered, State.restartSilence_offer, State.ended]
  unfold LineState.offer
  split
  · rw [LineState.flush_of_no_notice (by exact h.2)]
  · rfl

end Sys2Proof.Machine

/-! PROOFS. What the part sends (R165, R172, section 12.4), and the line between its two parties (R140 to R142, R164). -/

namespace Sys2Proof.Machine

/-! ## The bytes of messages (R172, R173, section 12.4) -/

/-- R173: two bytes of a 16-bit number. -/
theorem bytesOf_two (c : BitVec 16) : bytesOf 2 c.toNat = [c.setWidth 8, (c >>> 8).setWidth 8] := by
  have low : BitVec.ofNat 8 c.toNat = c.setWidth 8 := by
    refine BitVec.eq_of_toNat_eq ?_
    rw [BitVec.toNat_ofNat, BitVec.toNat_setWidth]
  have high : BitVec.ofNat 8 (c.toNat / 256) = (c >>> 8).setWidth 8 := by
    refine BitVec.eq_of_toNat_eq ?_
    rw [BitVec.toNat_ofNat, BitVec.toNat_setWidth, BitVec.toNat_ushiftRight, Nat.shiftRight_eq_div_pow]
  rw [← low, ← high]
  rfl

theorem length_orZero (n : Nat) (o : Option Nat) : (orZero n o).length = n :=
  length_bytesOf n _

theorem length_byteOf (n : Nat) : (byteOf n).length = 1 :=
  length_bytesOf 1 n

theorem length_wordBytes (w : Word32) : (wordBytes w).length = 4 :=
  length_bytesOf 4 _

theorem length_identityCodeBytes_le (c : IdentityCode) : (identityCodeBytes c).length ≤ 4 := by
  rw [identityCodeBytes, length_bytesOf]
  cases c.size <;> decide

/-- Section 12.4: three bytes a pixel. -/
theorem length_flatMap_pixel (pixels : List Pixel) : (pixels.flatMap Pixel.bytes).length = 3 * pixels.length := by
  induction pixels with
  | nil => rfl
  | cons p rest ih =>
    rw [List.flatMap_cons, List.length_append, ih, List.length_cons]
    exact (Nat.add_comm _ _)

/-- Section 12.2: the kinds of the notices. -/
theorem Notice.kind_range (n : Notice) : 0xE1 ≤ n.kind.toNat ∧ n.kind.toNat ≤ 0xE7 := by
  cases n <;> exact ⟨by simp [Notice.kind], by simp [Notice.kind]⟩

/-- Settles O14. -/
theorem messagesOnTheLineAreWellFormed : Obligations.MessagesOnTheLineAreWellFormed := by
  refine ⟨⟨by decide +kernel, by decide +kernel⟩, fun kind tag body => ?_, fun _ _ _ => rfl,
    fun n => ⟨n.kind, n.kind_range.1, n.kind_range.2, rfl⟩, fun n => ?_, fun r => ?_, fun i => ?_, fun _ _ _ => rfl,
    fun i f t full => ?_⟩
  · dsimp only
    rw [← bytesOf_two]
    rfl
  · simp only [Notice.bytes, List.length_append, length_byteOf, length_bytesOf, length_orZero, length_wordBytes]
  · simp only [Notice.bytes, runEndedBytes, List.length_append, length_byteOf, length_bytesOf, length_orZero,
      length_wordBytes]
  · have vendor := length_identityCodeBytes_le i.vendor
    have part := length_identityCodeBytes_le i.part
    have revision := length_identityCodeBytes_le i.revision
    have serial := length_identityCodeBytes_le i.serial
    have build := length_identityCodeBytes_le i.build
    simp only [identityBytes, List.length_append, length_byteOf, length_bytesOf]
    omega
  · simp only [tileBody, List.length_append, length_byteOf, length_bytesOf, length_orZero, length_flatMap_pixel, full]

/-! ## Who has the line (R140) -/

theorem State.tilesWait_iff (s : State) : s.tilesWait = true ↔ tileSenderWaits s := by
  unfold State.tilesWait tileSenderWaits State.nextUnsent State.frameAt
  cases s.transfer with
  | none => simp
  | some t => cases filled : s.frames.slots.get t.slot <;> simp [filled, and_assoc]

theorem State.startMessage_eq {s : State} {m : OutMessage} {rest : List OutMessage}
    (queued : s.line.outbound = m :: rest) :
    s.startMessage = if s.queueNext then s.updLine (LineState.give .queue m.wire) else s := by
  rw [State.startMessage, queued]

theorem State.startTile_eq {s : State} {t : Transfer} {f : Frame} (active : s.transfer = some t)
    (filled : s.frames.slots.get t.slot = some f) :
    s.startTile = if s.tileNext then
      (s.updLine (LineState.give .tiles (tileWire t.slot f f.nextUnsent))).putTransfer
        (some { t with credits := t.credits - 1, onLine := some f.nextUnsent })
      else s := by
  rw [State.startTile, active]
  dsimp only
  rw [State.frameAt, filled]

/-- R140: on a busy line neither party is given it. -/
theorem State.startMessage_busy {s : State} (busy : s.line.onLine ≠ none) : s.startMessage = s := by
  unfold State.startMessage
  split
  · exact if_neg (by simp [State.queueNext, busy])
  · rfl

theorem State.startTile_busy {s : State} (busy : s.line.onLine ≠ none) : s.startTile = s := by
  unfold State.startTile
  split
  · split
    · exact if_neg (by simp [State.tileNext, busy])
    · rfl
  · rfl

theorem exec_queueMessageStart {s : State} (h : s.between) :
    exec .queueMessageStart s = .next s.startMessage.ended :=
  Event.run_powered h.1 _

theorem exec_tileStart {s : State} (h : s.between) : exec .tileStart s = .next s.startTile.ended :=
  Event.run_powered h.1 _

/-- R140: the queue that waits has the line unless the tile sender waits too and did not have it last. -/
theorem State.queueNext_iff {s : State} {m : OutMessage} {rest : List OutMessage} (idle : s.line.onLine = none)
    (queued : s.line.outbound = m :: rest) : s.queueNext = true ↔ ¬ (tileSenderWaits s ∧ s.line.lastParty = .queue) := by
  rw [← State.tilesWait_iff]
  simp [State.queueNext, State.queueWaits, idle, queued, imp_iff_not_or]

/-- R140: the tile sender that waits has the line unless the queue waits too and did not have it last. -/
theorem State.tileNext_iff {s : State} (idle : s.line.onLine = none) (waits : tileSenderWaits s) :
    s.tileNext = true ↔ ¬ (s.line.outbound ≠ [] ∧ s.line.lastParty = .tiles) := by
  have waits := s.tilesWait_iff.mpr waits
  simp [State.tileNext, State.queueWaits, idle, waits, imp_iff_not_or]

/-- Settles O15. -/
theorem lineAlternatesBetweenQueueAndTiles : Obligations.LineAlternatesBetweenQueueAndTiles := by
  intro s h
  rw [exec_queueMessageStart h, exec_tileStart h]
  refine ⟨fun m rest idle queued => ⟨fun turn => ?_, fun waits last => ?_⟩,
    fun t f idle active filled credits offLine unsent => ?_, fun busy => ?_⟩
  · have next : s.queueNext = true := by
      rw [State.queueNext_iff idle queued]
      rintro ⟨waits, last⟩
      rcases turn with rests | tiles
      · exact rests waits
      · rw [last] at tiles
        cases tiles
    rw [State.startMessage_eq queued, if_pos next, State.ended_of_no_notice (by exact h.2)]
    rfl
  · rw [State.startMessage_eq queued, if_neg, State.ended_of_no_notice h.2]
    rw [State.queueNext_iff idle queued]
    exact not_not_intro ⟨waits, last⟩
  · have next := State.tileNext_iff idle ⟨t, f, active, filled, credits, offLine, unsent⟩
    refine ⟨fun turn => ?_, fun queued last => ?_⟩
    · have next : s.tileNext = true := by
        rw [next]
        rintro ⟨queued, last⟩
        rcases turn with empty | queue
        · exact queued empty
        · rw [last] at queue
          cases queue
      rw [State.startTile_eq active filled, if_pos next, State.ended_of_no_notice (by exact h.2)]
      rfl
    · rw [State.startTile_eq active filled, if_neg (by rw [next]; exact not_not_intro ⟨queued, last⟩),
        State.ended_of_no_notice h.2]
  · rw [State.startMessage_busy busy, State.startTile_busy busy, State.ended_of_no_notice h.2]
    exact ⟨rfl, rfl⟩

/-! ## The end of a message and of a tile (R141, R142, R164) -/

theorem exec_messageSent {s : State} (h : s.between) : exec .messageSent s = .next s.messageSent.ended :=
  Event.run_powered h.1 _

theorem exec_tileMessageSent {s : State} (h : s.between) : exec .tileMessageSent s = .next s.tileSent.ended :=
  Event.run_powered h.1 _

/-- R164: a message that has left the line. -/
theorem State.messageSent_eq {s : State} {x : OnLine} {m : OutMessage} {rest : List OutMessage}
    (onLine : s.line.onLine = some x) (party : x.party = .queue) (queued : s.line.outbound = m :: rest) :
    s.messageSent =
      if m.isResetReply then s.softReset
      else s.updLine fun l => { l with onLine := none, outbound := rest }.placeWaiting := by
  rw [State.messageSent, onLine, queued]
  exact if_pos party

theorem LineState.placeWaiting_rests {l : LineState}
    (rests : ∀ (h : InHand) (r : OutMessage), l.inHand = some h → h.wait ≠ .place r) : l.placeWaiting = l := by
  unfold LineState.placeWaiting
  split
  case h_1 h stands =>
    split
    case h_1 r waits => exact absurd waits (rests h r stands)
    case h_2 => rfl
  case h_2 => rfl

theorem LineState.placeWaiting_waits {l : LineState} {h : InHand} {r : OutMessage} (stands : l.inHand = some h)
    (waits : h.wait = .place r) : l.placeWaiting = l.place h r := by
  rw [LineState.placeWaiting, stands]
  dsimp only
  rw [waits]

/-- R141: the request in hand is no TRANSFER_STOP that waits on the tile. -/
theorem State.waitingStop_rests {s : State}
    (rests : ∀ (h : InHand) (i : Fin 6) (release : Bool), s.line.inHand = some h → h.wait ≠ .stop i release) :
    s.waitingStop = s := by
  unfold State.waitingStop
  split
  case h_1 h stands =>
    split
    case h_1 i release waits => exact absurd waits (rests h i release stands)
    case h_2 => rfl
  case h_2 => rfl

/-- R141: a tile that has left the line. -/
theorem State.tileSent_eq {s : State} {x : OnLine} {t : Transfer} {tile : Nat} (onLine : s.line.onLine = some x)
    (party : x.party = .tiles) (active : s.transfer = some t) (sending : t.onLine = some tile) :
    s.tileSent = State.waitingStop
      (let u := ((s.updLine fun l => { l with onLine := none }).modifyFrame t.slot
        fun f => { f with nextUnsent := f.nextUnsent + 1 }).putTransfer (some { t with onLine := none })
      if tile = 191 then u.endTransfer t.slot else u) := by
  rw [State.tileSent, onLine, active]
  dsimp only
  rw [party, sending]

theorem ParamTable.autoReleases_iff (t : ParamTable) : t.autoReleases = true ↔ t.value .autoRelease = 1 :=
  beq_iff_eq

/-- R142: the end of a transfer whose slot is SENDING. -/
theorem State.endTransfer_eq {s : State} {i : Fin 6} {f : Frame} (filled : s.frames.slots.get i = some f)
    (sending : f.state = .sending) :
    s.endTransfer i = { s with
      transfer := none
      frames := { s.frames with
        slots := s.frames.slots.set i
          (if s.line.params.value .autoRelease = 1 then none else some { f with state := .sent }) } } := by
  have kept : (s.putTransfer none).frames.slots.get i = some f := filled
  unfold State.endTransfer
  by_cases auto : s.line.params.value .autoRelease = 1
  · rw [if_pos auto, if_pos ((ParamTable.autoReleases_iff _).mpr auto),
      State.discard_unreferenced kept (by rw [sending]; rfl)]
    rfl
  · rw [if_neg auto, if_neg (fun on => auto ((ParamTable.autoReleases_iff _).mp on)), State.modifyFrame_filled kept]
    rfl

/-- Settles O16. -/
theorem messageEndFreesTheLine : Obligations.MessageEndFreesTheLine := by
  constructor
  · intro s x m rest h onLine party queued notReset
    have sent := State.messageSent_eq onLine party queued
    rw [if_neg (ne_true_of_eq_false notReset)] at sent
    rw [exec_messageSent h, sent]
    refine ⟨fun rests => ?_, fun g r stands waits room => ?_⟩
    · rw [State.updLine, LineState.placeWaiting_rests (by exact rests), State.ended_of_no_notice (by exact h.2)]
    · rw [State.updLine, LineState.placeWaiting_waits (by exact stands) waits,
        State.ended_of_no_notice (by exact (LineState.place_staged _ _ _).trans h.2), LineState.place]
      exact congrArg (fun l => Host.Outcome.next { s with line := l }) (if_pos room)
  · intro s x t f tile h onLine party active sending filled state rests
    rw [exec_tileMessageSent h, State.tileSent_eq onLine party active sending, State.modifyFrame_filled (by exact filled)]
    refine ⟨fun more => ?_, fun last => ?_⟩
    · rw [if_neg more, State.waitingStop_rests (by exact rests), State.ended_of_no_notice (by exact h.2)]
      rfl
    · rw [if_pos last, State.endTransfer_eq (f := { f with nextUnsent := f.nextUnsent + 1 })
        (by exact (Table.get_set _ _ _ _).trans (if_pos rfl)) (by exact state),
        State.waitingStop_rests (by exact rests), State.ended_of_no_notice (by exact h.2)]
      simp only [State.putTransfer, State.updLine, Table.set_set]
      rfl

/-! ## Resets (R2, R81, R170) -/

theorem Table.get_fill {n : Nat} {α : Type} (a : α) (i : Fin n) : (Table.fill n a).get i = a := by
  simp [Table.get, Table.fill]

theorem StoreState.interrupt_idle {t : StoreState} (idle : t.operation = none) : t.interrupt = t := by
  rw [StoreState.interrupt, idle]

theorem StoreState.interrupt_lockdown (t : StoreState) : t.interrupt.lockdown = t.lockdown := by
  unfold StoreState.interrupt
  split
  · split
    · split <;> rfl
    · rfl
  · rfl

/-- What a reset leaves, whichever it is: the four values it keeps or loses are its own. -/
theorem State.resetState_of_atReset {s t : State} {number nextFrame : Nat} {position : Word32} {lockdown : Bool}
    {exhausted : Bool} (pending : t.pending = s.pending) (pins : t.pins = s.pins) (transfer : t.transfer = none)
    (line : t.line = LineState.atReset) (run : t.run = RunState.atReset number)
    (travel : t.travel = TravelState.atReset s.pins.phaseA s.pins.phaseB position) (ring : t.ring = RingState.atReset)
    (monitor : t.monitor = MonitorState.atReset) (balance : t.balance = BalanceUnit.atReset)
    (frames : t.frames = FrameStore.atReset nextFrame exhausted) (engine : t.engine = EngineState.atReset)
    (store : t.store = StoreState.atReset s.store.interrupt.areas s.store.interrupt.control lockdown
      s.store.interrupt.disturbances) :
    resetState number position nextFrame lockdown s t := by
  unfold resetState
  rw [line, run, travel, ring, monitor, balance, frames, engine, store]
  refine ⟨pending, pins, transfer, rfl, rfl, rfl, rfl, rfl, rfl, rfl, rfl, rfl, rfl, rfl, rfl, rfl, rfl, rfl, rfl,
    rfl, rfl, rfl, rfl, rfl, rfl, rfl, rfl, rfl, rfl, rfl, rfl, rfl, rfl, fun _ => Table.get_fill _ _, rfl, rfl, rfl,
    rfl, fun _ => Table.get_fill _ _, rfl, rfl, rfl, rfl, fun _ => Table.get_fill _ _, rfl, rfl, rfl, rfl,
    fun _ => Table.get_fill _ _, fun _ => Table.get_fill _ _, rfl, rfl, rfl, rfl, rfl, fun _ => Table.get_fill _ _,
    rfl, rfl, rfl, rfl, rfl, rfl, rfl, rfl, rfl, rfl, rfl, fun _ => rfl, rfl, rfl, rfl, rfl, fun idle => ?_⟩
  rw [StoreState.interrupt_idle idle]
  exact ⟨rfl, rfl⟩

theorem State.softReset_resetState (s : State) :
    resetState s.run.runNumber s.travel.position s.frames.nextFrame s.store.lockdown s s.softReset := by
  refine State.resetState_of_atReset rfl rfl rfl rfl rfl rfl rfl rfl rfl rfl rfl ?_
  rw [← StoreState.interrupt_lockdown]
  rfl

theorem State.powerOnReset_resetState (power : Bool) (s : State) :
    resetState 0 0 1 false s { s.powerOnReset with powered := power } :=
  State.resetState_of_atReset rfl rfl rfl rfl rfl rfl rfl rfl rfl rfl rfl rfl

/-- A soft reset queues no notice. -/
theorem exec_resetInput {s : State} (h : s.between) : exec .resetInput s = .next s.softReset :=
  (Event.run_powered h.1 _).trans (congrArg _ (State.ended_of_no_notice rfl))

/-- Settles O17. -/
theorem resetsLeaveTheResetState : Obligations.ResetsLeaveTheResetState := by
  refine ⟨fun s h => ⟨⟨s.softReset, exec_resetInput h, h.1, s.softReset_resetState⟩, ?_⟩, fun s =>
    ⟨⟨_, rfl, rfl, s.powerOnReset_resetState true⟩, ⟨_, rfl, rfl, s.powerOnReset_resetState false⟩⟩⟩
  intro x kind tag r rest onLine party isReset queued
  subst isReset
  rw [exec_messageSent h, exec_resetInput h, State.messageSent_eq onLine party queued, if_pos (by rfl)]
  exact congrArg _ (State.ended_of_no_notice rfl)

end Sys2Proof.Machine

/-! PROOFS. The run controller: RUN_START (R5), the requests that end a run or move the part (R14 to R21), SINGLE (R13), and
the three timers (R11, R19, R21). -/

namespace Sys2Proof.Machine

/-! ## What a reply leaves to the rest of the event

A reply changes the inbound buffer, the request in hand and the outbound queue alone, and the rest of an event looks at
none of them. -/

/-- The line with another inbound buffer, request in hand and outbound queue. -/
def LineState.withQueues (inbound : List Message) (inHand : Option InHand) (outbound : List OutMessage)
    (l : LineState) : LineState :=
  { l with inbound := inbound, inHand := inHand, outbound := outbound }

/-- A line is another but for those three. -/
def LineState.sameQueues (l m : LineState) : Prop :=
  m.inbound = l.inbound ∧ m.inHand = l.inHand ∧ m.outbound = l.outbound

theorem LineState.withMessage_eq (kind tag : Byte) (m : OutMessage) (l : LineState) :
    l.withMessage kind tag m = l.withQueues (l.withMessage kind tag m).inbound (l.withMessage kind tag m).inHand
      (l.withMessage kind tag m).outbound := by
  unfold LineState.withMessage
  split <;> rfl

/-- A reply depends on the three that it changes alone. -/
theorem LineState.withMessage_of_sameQueues {l m : LineState} (same : l.sameQueues m) (kind tag : Byte)
    (r : OutMessage) : m.withMessage kind tag r = m.withQueues (l.withMessage kind tag r).inbound
      (l.withMessage kind tag r).inHand (l.withMessage kind tag r).outbound := by
  obtain ⟨inbound, inHand, outbound⟩ := same
  unfold LineState.withMessage
  rw [outbound, inbound]
  split <;> rfl

theorem LineState.sameQueues_raise (c : Condition) (l : LineState) : l.sameQueues (l.raise c) := by
  unfold LineState.raise
  split <;> exact ⟨rfl, rfl, rfl⟩

theorem LineState.sameQueues.trans {l m n : LineState} (h : l.sameQueues m) (g : m.sameQueues n) : l.sameQueues n :=
  ⟨g.1.trans h.1, g.2.1.trans h.2.1, g.2.2.trans h.2.2⟩

theorem LineState.raise_withQueues (c : Condition) (inbound : List Message) (inHand : Option InHand)
    (outbound : List OutMessage) (l : LineState) :
    (l.withQueues inbound inHand outbound).raise c = (l.raise c).withQueues inbound inHand outbound := by
  unfold LineState.raise LineState.withQueues
  dsimp only
  split <;> rfl

section Trigger

variable {source : Source} {position : Word32} {s t : State} {inbound : List Message} {inHand : Option InHand}
  {outbound : List OutMessage}

theorem State.withdrawn_withQueues (i : Fin 6) (f : Frame) :
    (s.updLine (LineState.withQueues inbound inHand outbound)).withdrawn i f =
      (s.withdrawn i f).updLine (LineState.withQueues inbound inHand outbound) :=
  congrArg (fun l => { s with line := l }) (LineState.raise_withQueues .frameReclaimed inbound inHand outbound
    { s.line with staged := s.line.staged ++ [.frameWithdrawn i f.number f.state f.run] })

theorem Served.withQueues {o : Option (Fin 6)} (h : Served source position s o t) :
    Served source position (s.updLine (LineState.withQueues inbound inHand outbound)) o
      (t.updLine (LineState.withQueues inbound inHand outbound)) := by
  cases h with
  | free i slot => exact .free i slot
  | reclaimed i f slot =>
    have served := Served.reclaimed (source := source) (position := position)
      (s := s.updLine (LineState.withQueues inbound inHand outbound)) i f slot
    rw [State.withdrawn_withQueues] at served
    exact served
  | starved full =>
    have served := Served.starved (source := source) (position := position)
      (s := s.updLine (LineState.withQueues inbound inHand outbound)) full
    rw [State.updLine_line, LineState.raise_withQueues] at served
    exact served

/-- What becomes of a trigger does not depend on the queues of the line. -/
theorem Triggered.withQueues {o : TriggerOutcome} (h : Triggered source position s o t) :
    Triggered source position (s.updLine (LineState.withQueues inbound inHand outbound)) o
      (t.updLine (LineState.withQueues inbound inHand outbound)) := by
  cases h with
  | ignored declines => exact .ignored declines
  | pending takes busy empty => exact .pending takes busy empty
  | overlap takes busy held =>
    have overlap := Triggered.overlap (source := source) (position := position)
      (s := s.updLine (LineState.withQueues inbound inHand outbound)) takes busy held
    rw [State.updLine_line, LineState.raise_withQueues] at overlap
    exact overlap
  | served i t takes idle got => exact .served i _ takes idle got.withQueues
  | starved t takes idle got => exact .starved _ takes idle got.withQueues

theorem Served.sameQueues {o : Option (Fin 6)} (h : Served source position s o t) : s.line.sameQueues t.line := by
  cases h with
  | free => exact ⟨rfl, rfl, rfl⟩
  | reclaimed i f =>
    exact LineState.sameQueues_raise .frameReclaimed
      { s.line with staged := s.line.staged ++ [.frameWithdrawn i f.number f.state f.run] }
  | starved => exact LineState.sameQueues_raise _ _

theorem Triggered.sameQueues {o : TriggerOutcome} (h : Triggered source position s o t) : s.line.sameQueues t.line := by
  cases h with
  | ignored | pending => exact ⟨rfl, rfl, rfl⟩
  | overlap => exact LineState.sameQueues_raise _ _
  | served _ _ _ _ got => exact got.sameQueues
  | starved _ _ _ got => exact got.sameQueues

/-- A trigger behind a reply is the reply behind the trigger. -/
theorem Triggered.withReply {o : TriggerOutcome} (h : Triggered source position s o t) (kind tag : Byte)
    (body : ReplyBody) : Triggered source position (s.withReply kind tag body) o (t.withReply kind tag body) := by
  have before : s.withReply kind tag body = s.updLine (LineState.withQueues _ _ _) :=
    congrArg (fun l => { s with line := l }) (LineState.withMessage_eq kind tag _ s.line)
  have after : t.withReply kind tag body = t.updLine (LineState.withQueues _ _ _) :=
    congrArg (fun l => { t with line := l }) (LineState.withMessage_of_sameQueues h.sameQueues kind tag _)
  rw [before, after]
  exact h.withQueues

end Trigger

/-! ## RUN_START (R5) -/

theorem RunMode.ofCode_outside {n : Nat} (outside : ¬ (1 ≤ n ∧ n ≤ 3)) : RunMode.ofCode n = none := by
  unfold RunMode.ofCode
  split
  case h_4 => rfl
  all_goals exact absurd (by decide) outside

theorem RunMode.ofCode_inside {n : Nat} (low : 1 ≤ n) (high : n ≤ 3) : ∃ mode, RunMode.ofCode n = some mode := by
  interval_cases n <;> exact ⟨_, rfl⟩

theorem flagOf_outside {n : Nat} (outside : ¬ n ≤ 1) : flagOf n = none := by
  rw [flagOf, if_neg (by omega), if_neg (by omega)]

theorem flagOf_inside {n : Nat} (inside : n ≤ 1) : ∃ v, flagOf n = some v := by
  interval_cases n <;> exact ⟨_, rfl⟩

theorem LockoutSet.isEmpty_iff (l : LockoutSet) :
    l.isEmpty = true ↔ l = { thermal := false, supply := false, guard := false } := by
  obtain ⟨thermal, supply, guard⟩ := l
  cases thermal <;> cases supply <;> cases guard <;> decide

section Body

variable {m c0 c1 f : Byte}

theorem runMode_field : numberAt [m, c0, c1, f] 0 1 = m.toNat :=
  numberAt_one rfl

theorem runCount_field : numberAt [m, c0, c1, f] 1 2 = le2 c0 c1 :=
  numberAt_two (by simp)

theorem firstNow_field : numberAt [m, c0, c1, f] 3 1 = f.toNat :=
  numberAt_one rfl

/-- R5: RUN_START with a mode and a yes or no is decided on the part state and then on the lockout set. -/
theorem State.runStart_legal {mode : RunMode} {firstNow : Bool} (isMode : RunMode.ofCode m.toNat = some mode)
    (isFlag : flagOf f.toNat = some firstNow) (s : State) :
    s.runStart [m, c0, c1, f] =
      if s.run.part = .ready then
        if s.ring.lockout.isEmpty then s.acceptRun mode (le2 c0 c1) firstNow else s.refuse .lockout
      else s.refuse .wrongState := by
  rw [State.runStart, runMode_field, runCount_field, firstNow_field, isMode, isFlag]

theorem State.runStart_badMode (noMode : RunMode.ofCode m.toNat = none) (s : State) :
    s.runStart [m, c0, c1, f] = s.refuse .badValue := by
  rw [State.runStart, runMode_field, noMode]

theorem State.runStart_badFlag (noFlag : flagOf f.toNat = none) (s : State) :
    s.runStart [m, c0, c1, f] = s.refuse .badValue := by
  rw [State.runStart, firstNow_field, noFlag]
  cases RunMode.ofCode (numberAt [m, c0, c1, f] 0 1) <;> rfl

end Body

/-- R5, steps 1 to 5. -/
theorem State.openNewRun_eq (mode : RunMode) (requested : Nat) (s : State) :
    s.openNewRun mode requested = runOpened mode requested s :=
  rfl

theorem RunMode.ofCode_eq {m : Byte} {mode : RunMode}
    (code : m = 1 ∧ mode = .distance ∨ m = 2 ∧ mode = .interval ∨ m = 3 ∧ mode = .host) :
    RunMode.ofCode m.toNat = some mode := by
  rcases code with ⟨rfl, rfl⟩ | ⟨rfl, rfl⟩ | ⟨rfl, rfl⟩ <;> rfl

/-- R5: the run that an accepted RUN_START opens, behind its reply. -/
def State.runStarted (tag : Byte) (mode : RunMode) (requested : Nat) (s : State) : State :=
  (runOpened mode requested s).withDone .runStart tag (.runNumber (runOpened mode requested s).run.runNumber)

theorem State.opened_taken (tag : Byte) (mode : RunMode) (requested : Nat) (s : State) :
    State.done (.runNumber (runOpened mode requested s).run.runNumber)
      ((s.updLine (LineState.take RequestKind.runStart.byte tag)).openNewRun mode requested) =
      s.runStarted tag mode requested :=
  State.done_taken (by decide) tag _ (runOpened mode requested s)

theorem State.acceptRun_taken (tag : Byte) (mode : RunMode) (requested : Nat) (s : State) :
    (s.updLine (LineState.take RequestKind.runStart.byte tag)).acceptRun mode requested false =
      s.runStarted tag mode requested :=
  State.opened_taken tag mode requested s

/-- R5: first-now takes one trigger behind the reply. -/
theorem State.acceptRun_taken_firstNow (tag : Byte) (mode : RunMode) (requested : Nat) (s : State) :
    (s.updLine (LineState.take RequestKind.runStart.byte tag)).acceptRun mode requested true =
      ((s.runStarted tag mode requested).takeTrigger { source := mode.source, position := s.travel.position }).2 :=
  congrArg (fun u : State => (u.takeTrigger { source := mode.source, position := u.travel.position }).2)
    (State.opened_taken tag mode requested s)

/-- Settles O19. -/
theorem runStartOpensARun : Obligations.RunStartOpensARun := by
  intro tag m c0 c1 f mode s handled ready clear code u
  have accepted (firstNow : Bool) (flag : flagOf f.toNat = some firstNow) :
      exec (.runStart tag [m, c0, c1, f]) s =
        .next (State.ended ((s.updLine (LineState.take RequestKind.runStart.byte tag)).acceptRun mode (le2 c0 c1)
          firstNow)) := by
    refine (Event.run_handled handled rfl _).trans (congrArg (fun t => Host.Outcome.next (State.ended t)) ?_)
    rw [State.runStart_legal (RunMode.ofCode_eq code) flag]
    exact (if_pos ready).trans (if_pos ((LockoutSet.isEmpty_iff _).mpr clear))
  constructor
  · rintro rfl
    rw [accepted false rfl, State.acceptRun_taken]
    exact congrArg Host.Outcome.next (State.withReply_ended (by exact handled.1.1) _ _ _)
  · rintro rfl o t got
    have first : Triggered mode.source s.travel.position u o t := by cases mode <;> exact got
    have taken := State.takeTrigger_eq (first.withReply RequestKind.runStart.byte tag (.done (.runNumber u.run.runNumber)))
    rw [accepted true rfl, State.acceptRun_taken_firstNow]
    exact congrArg (fun r : TriggerOutcome × State => Host.Outcome.next r.2.ended) taken

/-! ## The requests refused (R5, R14, R17, R18, R20) -/

theorem State.park_elsewhere {s : State} (ready : s.run.part ≠ .ready) (running : s.run.part ≠ .running) :
    s.park = s.refuse .wrongState := by
  unfold State.park
  split
  case h_1 part => exact absurd part ready
  case h_2 part => exact absurd part running
  case h_3 => rfl

theorem State.wake_elsewhere {s : State} (parked : s.run.part ≠ .parked) (dormant : s.run.part ≠ .dormant) :
    s.wake = s.refuse .wrongState := by
  unfold State.wake
  split
  case h_1 part => exact absurd part parked
  case h_2 part => exact absurd part dormant
  case h_3 => rfl

/-- Settles O22. -/
theorem runRequestsAreRefusedInOrder : Obligations.RunRequestsAreRefusedInOrder := by
  constructor
  · intro tag m c0 c1 f s handled legal
    have refused (r : Reason) (refuses : State.runStart [m, c0, c1, f]
        (s.updLine (LineState.take RequestKind.runStart.byte tag)) =
          (s.updLine (LineState.take RequestKind.runStart.byte tag)).refuse r) :
        exec (.runStart tag [m, c0, c1, f]) s = .next (s.withRefusal .runStart tag r) :=
      Event.run_refused handled (by decide) rfl refuses
    have modes (law : legal) : ∃ mode, RunMode.ofCode m.toNat = some mode := RunMode.ofCode_inside law.1 law.2.1
    have flags (law : legal) : ∃ v, flagOf f.toNat = some v := flagOf_inside law.2.2
    refine ⟨fun bad => refused _ ?_, fun law part => refused _ ?_, fun law part held => refused _ ?_⟩
    · by_cases mode : 1 ≤ m.toNat ∧ m.toNat ≤ 3
      · exact State.runStart_badFlag (flagOf_outside fun flag => bad ⟨mode.1, mode.2, flag⟩) _
      · exact State.runStart_badMode (RunMode.ofCode_outside mode) _
    · obtain ⟨mode, isMode⟩ := modes law
      obtain ⟨flag, isFlag⟩ := flags law
      rw [State.runStart_legal isMode isFlag]
      exact if_neg part
    · obtain ⟨mode, isMode⟩ := modes law
      obtain ⟨flag, isFlag⟩ := flags law
      rw [State.runStart_legal isMode isFlag]
      exact (if_pos part).trans (if_neg fun clear => held ((LockoutSet.isEmpty_iff _).mp clear))
  · intro tag s
    refine ⟨fun handled part => Event.run_refused handled (by decide) rfl (if_neg part),
      fun handled ready running => Event.run_refused handled (by decide) rfl ?_,
      fun handled parked => Event.run_refused handled (by decide) rfl ?_,
      fun handled ready parked => Event.run_refused handled (by decide) rfl (if_neg ?_)⟩
    · exact State.park_elsewhere ready running
    · exact State.wake_elsewhere parked fun dormant =>
        absurd (PartState.answers_of_handles handled.2 .trigger) (by rw [show s.run.part = .dormant from dormant]; decide)
    · exact not_or.mpr ⟨ready, parked⟩

end Sys2Proof.Machine

/-! PROOFS. The run ends of RUN_STOP, PARK and silence (R14 to R19), what else moves the part (R17 to R21), SINGLE (R13),
and the three timers of the run controller. -/

namespace Sys2Proof.Machine

/-! ## A run end behind a reply (R14 to R16) -/

/-- A reply does not look at the notices of the event. -/
theorem LineState.withMessage_staged_append (kind tag : Byte) (m : OutMessage) (notices : List Notice) (l : LineState) :
    LineState.withMessage kind tag m { l with staged := l.staged ++ notices } =
      { l.withMessage kind tag m with staged := (l.withMessage kind tag m).staged ++ notices } := by
  unfold LineState.withMessage
  dsimp only
  split <;> rfl

theorem State.closed_withReply (reason : EndReason) (part : PartState) (c : RunRecord) (kind tag : Byte)
    (body : ReplyBody) (s : State) :
    (s.withReply kind tag body).closed reason part c = (s.closed reason part c).withReply kind tag body := by
  have line := LineState.withMessage_staged_append kind tag (.reply (kind + 0x80) tag body)
    [.runEnded (s.endedRecord reason c)] s.line
  simp only [State.withReply, State.closed, line]
  rfl

theorem LineState.withMessage_params (kind tag : Byte) (m : OutMessage) (l : LineState) :
    (l.withMessage kind tag m).params = l.params := by
  unfold LineState.withMessage
  split <;> rfl

theorem State.closedFreeing_withReply (reason : EndReason) (part : PartState) (c : RunRecord) (i : Fin 6) (f : Frame)
    (kind tag : Byte) (body : ReplyBody) (s : State) :
    (s.withReply kind tag body).closedFreeing reason part c i f =
      (s.closedFreeing reason part c i f).withReply kind tag body := by
  have swapped := State.bankSwapped_line_run (s.abandoned i f)
    (s.line.withMessage kind tag (.reply (kind + 0x80) tag body)) (s.abandoned i f).run
    (LineState.withMessage_params _ _ _ s.line)
  have behind : State.bankSwapped ((s.withReply kind tag body).abandoned i f) =
      (s.abandoned i f).bankSwapped.withReply kind tag body := by
    obtain ⟨run, line, _⟩ := (s.abandoned i f).bankSwapped_keeps
    refine swapped.trans ?_
    rw [State.withReply, run, line]
    rfl
  unfold State.closedFreeing
  rw [behind, State.closed_withReply]

/-! ## RUN_STOP and PARK (R14, R18) -/

/-- R14: the event of a RUN_STOP in RUNNING. -/
theorem exec_runStop {tag : Byte} {s : State} (handled : s.handles .runStop tag []) (running : s.run.part = .running) :
    exec (.runStop tag []) s = .next ((s.withDone .runStop tag .nothing).endRun .hostStop).ended := by
  have event : exec (.runStop tag []) s =
      .next (State.ended (State.runStop (s.updLine (LineState.take RequestKind.runStop.byte tag)))) :=
    Event.run_handled handled rfl _
  rw [event, State.runStop, if_pos (by exact running), State.done_taken (by decide)]

/-- R18: the event of a PARK in RUNNING. -/
theorem exec_park_running {tag : Byte} {s : State} (handled : s.handles .park tag []) (running : s.run.part = .running) :
    exec (.park tag []) s = .next ((s.withDone .park tag .nothing).endRun .parked).ended := by
  have event : exec (.park tag []) s =
      .next (State.ended (State.park (s.updLine (LineState.take RequestKind.park.byte tag)))) :=
    Event.run_handled handled rfl _
  rw [event, State.park, show (s.updLine (LineState.take RequestKind.park.byte tag)).run.part = .running from running]
  exact congrArg (fun t : State => Host.Outcome.next (t.endRun .parked).ended) (State.done_taken (by decide) tag _ s)

section RunEnd

variable {s : State} {c : RunRecord} {k : RequestKind} {tag : Byte} {r : Result} (running : s.run.part = .running)
  (opened : s.run.current = some c)
include running opened

/-- R15: a run end behind its reply, with a capture past its strobe start. -/
theorem State.endRun_withDone_busy (reason : EndReason) (busy : ¬ s.pathIdle) (unarmed : s.noneArmed)
    (quiet : s.between) :
    ((s.withDone k tag r).endRun reason).ended = (s.stopping reason c).withDone k tag r := by
  rw [State.endRun_busy (by exact running) (by exact opened) (by exact busy) (by exact unarmed)]
  exact State.ended_of_no_notice ((LineState.withMessage_staged _ _ _ s.line).trans quiet.2)

/-- R16: a run end behind its reply, with the sensor path idle. -/
theorem State.endRun_withDone_idle (reason : EndReason) (idle : s.pathIdle) :
    (s.withDone k tag r).endRun reason = (s.closed reason reason.partAfter c).withDone k tag r := by
  rw [State.endRun_idle (by exact running) (by exact opened) (by exact idle)]
  exact State.closed_withReply _ _ _ _ _ _ s

/-- R57: a run end behind its reply, with a slot ARMED. -/
theorem State.endRun_withDone_armed (reason : EndReason) {i : Fin 6} {f : Frame}
    (filled : s.frames.slots.get i = some f) (armed : f.state = .armed) (alone : s.aloneOnPath i) :
    (s.withDone k tag r).endRun reason = (s.closedFreeing reason reason.partAfter c i f).withDone k tag r := by
  rw [State.endRun_armed (by exact running) (by exact opened) (by exact filled) armed (by exact alone)]
  exact State.closedFreeing_withReply _ _ _ _ _ _ _ _ s

end RunEnd

/-- Settles O20. -/
theorem runStopAndParkEndTheRun : Obligations.RunStopAndParkEndTheRun := by
  intro tag c s running opened unarmed
  refine ⟨fun handled => ?_, fun handled => ?_⟩
  · rw [exec_runStop handled running]
    refine ⟨fun busy => ?_, fun idle => ?_⟩
    · rw [State.endRun_withDone_busy running opened _ busy unarmed handled.1.1]
    · rw [State.endRun_withDone_idle running opened _ idle]
      rfl
  · rw [exec_park_running handled running]
    refine ⟨fun busy => ?_, fun idle => ?_⟩
    · rw [State.endRun_withDone_busy running opened _ busy unarmed handled.1.1]
    · rw [State.endRun_withDone_idle running opened _ idle]
      rfl

/-! ## The silence timer (R19) -/

theorem State.stopping_raise (k : Condition) (s : State) (reason : EndReason) (c : RunRecord) :
    (s.stopping reason c).raise k = State.stopping reason c { s with line := s.line.raise k } :=
  rfl

/-- R19: the event of the silence timer. -/
theorem exec_silenceExpiry {n : Nat} {s : State} (h : s.between) (runs : s.run.silenceTimer = some n) :
    exec .silenceExpiry s = .next (State.ended
      (let t : State := { s with run := { s.run with silenceTimer := none } }
      if s.run.part = .running then ((t.leaveRunning .silence).raise .linkSilence).closeIfIdle else t)) := by
  have event : exec .silenceExpiry s = .next s.silenceExpired.ended := Event.run_powered h.1 _
  rw [event, State.silenceExpired, if_pos (Option.isSome_iff_exists.mpr ⟨n, runs⟩)]
  rfl

/-- R19, R57: silence ends a run with a slot ARMED. -/
theorem State.silence_armed {s : State} {c : RunRecord} {i : Fin 6} {f : Frame} (opened : s.run.current = some c)
    (filled : s.frames.slots.get i = some f) (armed : f.state = .armed) (alone : s.aloneOnPath i) :
    ((s.leaveRunning .silence).raise .linkSilence).closeIfIdle =
      State.closedFreeing .silence .parked c i f { s with line := s.line.raise .linkSilence } := by
  have swapped := State.bankSwapped_line_run (s.abandoned i f) (s.line.raise .linkSilence) (s.abandoned i f).run
    (LineState.raise_params _ _)
  obtain ⟨run, line, _⟩ := (s.abandoned i f).bankSwapped_keeps
  have raised : (s.abandoned i f).bankSwapped.raise .linkSilence =
      State.bankSwapped (State.abandoned i f { s with line := s.line.raise .linkSilence }) := by
    refine Eq.trans ?_ swapped.symm
    rw [State.raise, State.updLine, line, ← run]
    rfl
  rw [State.leaveRunning_armed opened filled armed alone, State.stopping_raise, State.closeIfIdle_idle]
  · exact State.stopping_closed.trans (congrArg (State.closed .silence .parked _) raised)
  · exact State.pathIdle_bankSwapped (State.pathIdle_abandoned alone)

/-- Settles O21. -/
theorem runEndAbandonsTheArmedSlot : Obligations.RunEndAbandonsTheArmedSlot := by
  intro tag c i f s running opened filled armed alone
  refine ⟨fun handled => ?_, fun handled => ?_, fun n h runs => ?_⟩
  · rw [exec_runStop handled running, State.endRun_withDone_armed running opened _ filled armed alone]
    rfl
  · rw [exec_park_running handled running, State.endRun_withDone_armed running opened _ filled armed alone]
    rfl
  · rw [exec_silenceExpiry h runs]
    dsimp only
    rw [if_pos running, State.silence_armed (by exact opened) (by exact filled) armed (by exact alone)]

/-! ## The other two timers (R11, R21) -/

/-- Settles O26. -/
theorem runControllerTimersExpire : Obligations.RunControllerTimersExpire := by
  intro s h
  refine ⟨fun n o t runs got => ?_, fun n runs => ?_, fun n w timer reason => ?_⟩
  · have event : exec .intervalExpiry s = .next s.intervalExpired.ended := Event.run_powered h.1 _
    rw [event, State.intervalExpired, if_pos (Option.isSome_iff_exists.mpr ⟨n, runs⟩)]
    exact congrArg (fun r : TriggerOutcome × State => Host.Outcome.next r.2.ended) (State.takeTrigger_eq got)
  · rw [exec_silenceExpiry h runs]
    refine ⟨fun part => ?_, fun c running opened idle => ?_, fun c running opened busy unarmed => ?_⟩
    · dsimp only
      rw [if_neg part, State.ended_of_no_notice (by exact h.2)]
    · have unarmed : s.noneArmed := fun i f filled armed => by
        have path := idle i f filled
        rw [armed] at path
        cases path
      dsimp only
      rw [if_pos running, State.leaveRunning_unarmed (by exact opened) (by exact unarmed), State.stopping_raise,
        State.closeIfIdle_idle (by exact idle), State.stopping_closed]
      rfl
    · dsimp only
      rw [if_pos running, State.leaveRunning_unarmed (by exact opened) (by exact unarmed), State.stopping_raise,
        State.closeIfIdle_busy (by exact busy)]
  · have event : exec .wakeSettleExpiry s = .next s.wakeSettled.ended := Event.run_powered h.1 _
    rw [event, State.wakeSettled, timer, reason]
    dsimp only [State.notify, State.updLine, State.updRun, LineState.notify]
    rw [h.2]
    cases w <;> rfl

/-! ## PARK, WAKE and SLEEP (R17, R18, R20, R21) -/

/-- R20: a commit or an erase is in progress. -/
theorem StoreState.erasesOrCommits_iff (t : StoreState) :
    t.erasesOrCommits = true ↔ ∃ o, t.operation = some o ∧ ∀ set, o.kind ≠ .protect set := by
  unfold StoreState.erasesOrCommits
  cases t.operation with
  | none => simp
  | some o =>
    obtain ⟨kind⟩ := o
    cases kind <;> simp

theorem State.tooBusyToSleep_iff (s : State) :
    s.tooBusyToSleep = true ↔ s.engine.hand ≠ none ∨ s.transfer ≠ none ∨ ¬ s.pathIdle ∨
      ∃ o, s.store.operation = some o ∧ ∀ set, o.kind ≠ .protect set := by
  simp only [State.tooBusyToSleep, Bool.or_eq_true, Option.isSome_iff_ne_none, State.pathBusy_iff,
    StoreState.erasesOrCommits_iff, or_assoc]
  exact or_congr_right (or_congr_right or_comm)

/-- Settles O23. -/
theorem parkWakeAndSleepMoveThePart : Obligations.ParkWakeAndSleepMoveThePart := by
  intro tag s
  refine ⟨fun handled ready => ?_, fun handled parked => ?_, fun taken dormant empty => ?_,
    fun handled part => ⟨fun busy => ?_, fun free => ?_⟩⟩
  · refine Event.run_done handled (by decide) rfl (by exact handled.1.1) ?_
    rw [State.park, show (s.updLine (LineState.take RequestKind.park.byte tag)).run.part = .ready from ready]
    rfl
  · refine Event.run_done handled (by decide) rfl (by exact handled.1.1) ?_
    rw [State.wake, show (s.updLine (LineState.take RequestKind.wake.byte tag)).run.part = .parked from parked]
    rfl
  · have answered : RequestKind.wake.answeredIn s.run.part = true := by rw [dormant]; rfl
    have event : exec (.wake tag []) s = .next (State.ended
        (State.wake (s.updLine (LineState.take RequestKind.wake.byte tag)))) := by
      change Event.run s (State.request .wake tag [] true State.wake) = _
      rw [Event.run_powered taken.1.1, State.request_answered (kind := .wake) taken answered rfl]
    rw [event, State.wake,
      show (s.updLine (LineState.take RequestKind.wake.byte tag)).run.part = .dormant from dormant]
    have waking : (s.updLine (LineState.take RequestKind.wake.byte tag)).beginWaking .request =
        (s.beginWaking .request).updLine (LineState.take RequestKind.wake.byte tag) := by
      rw [State.beginWaking_eq empty, State.beginWaking_eq (by exact empty)]
      rfl
    dsimp only
    rw [waking, State.done_taken (by decide), State.beginWaking_eq empty]
    exact congrArg Host.Outcome.next (State.withReply_ended (by exact taken.1) _ _ _)
  · refine Event.run_refused handled (by decide) rfl ?_
    rw [State.sleep, if_pos (by exact part)]
    exact if_pos ((State.tooBusyToSleep_iff s).mpr busy)
  · refine Event.run_done handled (by decide) rfl (by exact handled.1.1) ?_
    rw [State.sleep, if_pos (by exact part)]
    exact if_neg fun busy => free ((State.tooBusyToSleep_iff s).mp busy)

/-! ## SINGLE (R13, R108, R109) -/

theorem exec_single {tag : Byte} {s : State} (handled : s.handles .single tag []) :
    exec (.single tag []) s = .next (State.ended (State.single (s.updLine (LineState.take RequestKind.single.byte tag)))) :=
  Event.run_handled handled rfl _

section Allocates

variable {s t : State} (ready : s.run.part = .ready)
  (clear : s.ring.lockout = { thermal := false, supply := false, guard := false }) (idle : s.pathIdle)
include ready clear idle

/-- R13: a SINGLE that passes its tests and gets a slot. -/
theorem State.single_served {i : Fin 6}
    (got : s.allocate none { source := .single, position := s.travel.position } = (some i, t)) :
    s.single = t.done (.single i s.frames.nextFrame) := by
  rw [State.single, if_pos ready, if_pos ((LockoutSet.isEmpty_iff _).mpr clear),
    if_neg (by rw [s.pathBusy_false_iff.mpr idle]; decide), got]

theorem State.single_starved
    (got : s.allocate none { source := .single, position := s.travel.position } = (none, t)) :
    s.single = t.refuse .busy := by
  rw [State.single, if_pos ready, if_pos ((LockoutSet.isEmpty_iff _).mpr clear),
    if_neg (by rw [s.pathBusy_false_iff.mpr idle]; decide), got]

end Allocates

/-- Settles O25. -/
theorem singleCapturesOutsideARun : Obligations.SingleCapturesOutsideARun := by
  intro tag s handled clear
  refine ⟨fun part => Event.run_refused handled (by decide) rfl (if_neg part),
    fun ready held => Event.run_refused handled (by decide) rfl ?_,
    fun ready clear busy => Event.run_refused handled (by decide) rfl ?_, fun i ready clear idle slot => ?_,
    fun i f ready clear idle slot => ?_, fun ready clear idle full => ?_⟩
  · rw [State.single, if_pos (by exact ready)]
    exact if_neg fun empty => held ((LockoutSet.isEmpty_iff _).mp empty)
  · rw [State.single, if_pos (by exact ready), if_pos (by exact (LockoutSet.isEmpty_iff _).mpr clear)]
    exact if_pos ((State.pathBusy_iff s).mpr busy)
  · refine Event.run_done handled (by decide) rfl (by exact handled.1.1) ?_
    rw [State.single_served (by exact ready) (by exact clear) (by exact idle)
      (State.allocate_lowest (i := i) (by exact slot) _ _), State.fillSlot_eq]
    rfl
  · rw [exec_single handled, State.single_served (by exact ready) (by exact clear) (by exact idle)
      (State.allocate_oldest (i := i) (f := f) (by exact slot) _ _),
      State.withdraw_fill (f := f) (by exact slot.2.2.2.1), State.withdrawn_take]
    exact congrArg (fun t : State => Host.Outcome.next t.ended)
      (State.done_taken (kind := .single) (by decide) tag _ ((s.withdrawn i f).armed i none .single s.travel.position))
  · rw [exec_single handled, State.single_starved (by exact ready) (by exact clear) (by exact idle)
      (State.allocate_none (by exact full) _ _), State.raise, State.updLine, State.updLine_line, LineState.raise_take]
    exact congrArg (fun t : State => Host.Outcome.next t.ended)
      (State.refuse_taken (kind := .single) (by decide) tag _ { s with line := s.line.raise .slotStarved })

end Sys2Proof.Machine

/-! PROOFS. The speed and the stall timer (R30, R32), the levels of a strobe (R39 to R41), its start (R62, R63), and how a
strobe request is decided (R56 to R59). -/

namespace Sys2Proof.Machine

/-! ## The event of a command -/

/-- Between two events, a command of a powered part is its level on the input lines, its steps, and its notices. -/
theorem exec_ordinary {c : Instr} {s : State} (h : s.between) (notPower : c ≠ .powerOnReset)
    (notBrownout : c ≠ .brownout) : exec c s = .next (stepsOf c (s.updPins (levelOf c))).ended := by
  rw [exec_eq_event notPower notBrownout, Event.runPin, Event.run_powered (by exact h.1)]

/-! ## The speed (R30, R32) -/

section Window

variable {v : TravelState} (pitch window : Nat)

/-- R30: four edges or more give the speed by WINDOW. -/
theorem TravelState.windowExpired_many (many : 4 ≤ v.windowCount) :
    v.windowExpired pitch window = { v with
      windowLength := window
      windowCount := 0
      speed := min 65535 (v.windowCount * pitch / v.windowLength)
      method := .window } := by
  rw [TravelState.windowExpired, if_pos many, heldSpeed, Nat.min_comm]

/-- R30: fewer give it by PERIOD, when one is known. -/
theorem TravelState.windowExpired_few (few : v.windowCount < 4) {p : Nat} (known : v.period = some p) :
    v.windowExpired pitch window = { v with
      windowLength := window
      windowCount := 0
      speed := min 65535 (pitch * 1000 / p)
      method := .period } := by
  rw [TravelState.windowExpired, if_neg (Nat.not_le.mpr few)]
  split
  case h_1 q held =>
    cases held.symm.trans known
    rw [heldSpeed, Nat.min_comm]
  case h_2 unknown => cases unknown.symm.trans known

theorem TravelState.windowExpired_unknown (few : v.windowCount < 4) (unknown : v.period = none) :
    v.windowExpired pitch window = { v with windowLength := window, windowCount := 0 } := by
  rw [TravelState.windowExpired, if_neg (Nat.not_le.mpr few)]
  split
  case h_1 q held => cases held.symm.trans unknown
  case h_2 => rfl

end Window

/-- R30: the event of the speed window. -/
theorem exec_speedWindowExpiry {s : State} (h : s.between) :
    exec .speedWindowExpiry s = .next { s with
      travel := s.travel.windowExpired (s.line.params.value .countPitch) (s.line.params.value .speedWindow) } := by
  have event : exec .speedWindowExpiry s = .next (State.ended { s with
      travel := s.travel.windowExpired (s.line.params.value .countPitch) (s.line.params.value .speedWindow) }) :=
    exec_ordinary h nofun nofun
  rw [event, State.ended_of_no_notice (by exact h.2)]

/-- Settles O29. -/
theorem speedIsMeasuredAndStalls : Obligations.SpeedIsMeasuredAndStalls := by
  constructor
  · intro s h pitch w
    rw [exec_speedWindowExpiry h]
    refine ⟨fun many => ?_, fun few p known => ?_, fun few unknown => ?_⟩
    · rw [TravelState.windowExpired_many _ _ many]
    · rw [TravelState.windowExpired_few _ _ few known]
    · rw [TravelState.windowExpired_unknown _ _ few unknown]
  · intro n s h runs
    have event : exec .stallExpiry s = .next (s.updTravel TravelState.stalled).ended :=
      exec_ordinary h nofun nofun
    rw [event, State.updTravel, TravelState.stalled, runs, State.ended_of_no_notice (by exact h.2)]

/-! ## Tables -/

theorem Table.items_eq {n : Nat} {α : Type} (t : Table n α) : t.items = (List.finRange n).map t.get := by
  refine List.ext_getElem (by rw [t.size, List.length_map, List.length_finRange]) fun k inside _ => ?_
  rw [List.getElem_map, List.getElem_finRange]
  rfl

theorem Table.eq_of_get {n : Nat} {α : Type} {t u : Table n α} (same : ∀ i, t.get i = u.get i) : t = u := by
  have items : t.items = u.items := by
    rw [Table.items_eq, Table.items_eq]
    exact List.map_congr_left fun i _ => same i
  cases t
  cases u
  cases items
  rfl

theorem Table.any_eq {n : Nat} {α : Type} (t : Table n α) (p : α → Bool) :
    t.any p = (List.finRange n).any fun i => p (t.get i) := by
  rw [Table.any, Table.items_eq, List.any_map]
  rfl

/-! ## Levels (R39 to R41) -/

/-- R39. -/
theorem State.clippedLevel_level (s : State) (d : Nat) (i : Fin 12) :
    ((s.clippedLevels d).get i).level = s.clippedAt d i := by
  rw [State.clippedLevels, Table.get_ofFn, State.effectiveCeiling_eq]
  by_cases enabled : (s.ring.segments.get i).state = .enabled
  · simp only [clippedLevel, State.segmentAt, Segment.isEnabled, State.clippedAt, enabled, decide_true, if_true, rawLevel,
      groupOf, Nat.min_assoc]
  · simp only [clippedLevel, State.segmentAt, Segment.isEnabled, State.clippedAt, enabled, decide_false, if_false]
    rfl

theorem State.clippedLevel_cut (s : State) (d : Nat) (i : Fin 12) :
    ((s.clippedLevels d).get i).cut = (decide ((s.ring.segments.get i).state = .enabled) &&
      decide (s.clippedAt d i < s.balance.energies.get i / d)) := by
  have level := s.clippedLevel_level d i
  rw [State.clippedLevels, Table.get_ofFn] at level ⊢
  rw [← level]
  by_cases enabled : (s.ring.segments.get i).state = .enabled
  · simp [clippedLevel, State.segmentAt, Segment.isEnabled, enabled, rawLevel]
  · simp [clippedLevel, State.segmentAt, Segment.isEnabled, enabled]

theorem State.levelSum_clippedLevels (s : State) (d : Nat) : levelSum (s.clippedLevels d) = s.clippedSum d := by
  rw [levelSum, Table.items_eq, List.map_map, State.clippedSum]
  exact congrArg List.sum (List.map_congr_left fun i _ => State.clippedLevel_level s d i)

/-- R40, R41: the levels of a strobe that starts now, clipped or scaled. -/
theorem State.strobeLevels_get (s : State) (d : Nat) (i : Fin 12) :
    (s.strobeLevels d).get i = { level := s.levelAt d i, cut := s.cutAt d i } := by
  have level := s.clippedLevel_level d i
  have cut := s.clippedLevel_cut d i
  have budget : ringBudget s.monitor.supplyStep = s.budgetNow := rfl
  have off : (s.ring.segments.get i).state ≠ .enabled → s.clippedAt d i = 0 := fun off => if_neg off
  unfold State.strobeLevels scaledLevels State.levelAt State.cutAt
  rw [s.levelSum_clippedLevels d, budget]
  by_cases fits : s.clippedSum d ≤ s.budgetNow
  · have noScale : ¬ s.budgetNow < s.clippedSum d := Nat.not_lt.mpr fits
    rw [if_pos fits, if_pos fits]
    simp only [noScale, decide_false, Bool.false_and, Bool.or_false, ← cut]
    rw [← level]
  · have scale : s.budgetNow < s.clippedSum d := Nat.not_le.mp fits
    rw [if_neg fits, if_neg fits, Table.get_map, FormedLevel.scaled, level, cut]
    by_cases enabled : (s.ring.segments.get i).state = .enabled
    · simp [enabled, scale]
    · simp [enabled, off enabled]

/-! ## The start of a capture strobe (R61 to R63) -/

theorem State.strobeLevels_level (s : State) (d : Nat) :
    (s.strobeLevels d).map FormedLevel.level = Table.ofFn fun k => s.levelAt d k :=
  Table.eq_of_get fun i => by rw [Table.get_map, Table.get_ofFn, State.strobeLevels_get]

theorem State.strobeLevels_cut (s : State) (d : Nat) :
    (s.strobeLevels d).any FormedLevel.cut = (List.finRange 12).any fun k => s.cutAt d k := by
  simp only [Table.any_eq, State.strobeLevels_get]

/-- R41, R62: the ring at a strobe start. -/
theorem State.fire_eq (i : Fin 6) (d : Nat) (s : State) :
    s.ring.fire i d (s.strobeLevels d) = { s.ring with
      segments := Table.ofFn fun k =>
        { s.ring.segments.get k with
          lastLevel := s.levelAt d k
          saturatedLast := s.cutAt d k
          strobeCount :=
            if 0 < s.levelAt d k then (s.ring.segments.get k).strobeCount + 1
            else (s.ring.segments.get k).strobeCount }
      deferral := none
      strobe := some
        { target := .capture i, duration := d, levels := Table.ofFn fun k => s.levelAt d k, midPassed := false }
      guard := some (min 5000 (d + d / 4))
      drives := Table.ofFn fun k => s.levelAt d k
      lit := true
      expose := true } := by
  simp only [RingState.fire, State.strobeLevels_level, Segment.started, State.strobeLevels_get, guardTime]

theorem State.raise_if (b : Bool) (c : Condition) (s : State) :
    (if b then s.raise c else s) = { s with line := if b then s.line.raise c else s.line } := by
  cases b <;> rfl

/-- R62, R63: a capture strobe starts for a slot that holds a frame. -/
theorem State.startStrobe_eq {i : Fin 6} {f : Frame} {s : State} (filled : s.frames.slots.get i = some f) :
    s.startStrobe i = s.strobed i f := by
  have duration : strobeDuration s.travel.speed (s.param .blurBudget) (s.param .strobeMax) = s.durationNow := rfl
  have limit : blurLimit s.travel.speed (s.param .blurBudget) (s.param .strobeMax) = s.blurNow := rfl
  unfold State.startStrobe
  dsimp only
  rw [duration, limit, State.modifyFrame_filled (f := f) (by exact filled), State.strobeLevels_cut,
    State.strobeLevels_level, Table.any_eq, State.updRing, State.fire_eq, State.raise_if]
  rfl

end Sys2Proof.Machine

/-! PROOFS. How a strobe request is decided (R56 to R59), the levels within their bounds (R39, R40), and the ends of a
strobe and of a deferral (R57 to R59, R66, R67). -/

namespace Sys2Proof.Machine

/-! ## The strobe request (R56, R58) -/

/-- R56: a request for a slot that is no longer ARMED is dropped. -/
theorem State.slotIn_armed {s : State} {i : Fin 6} (found : s.slotIn (fun p => decide (p = .armed)) = some i) :
    ∃ f, s.frames.slots.get i = some f ∧ f.state = .armed := by
  have passes := List.find?_some found
  cases filled : s.frames.slots.get i with
  | none => simp [FrameStore.slotIs, filled] at passes
  | some f => exact ⟨f, rfl, by simpa [FrameStore.slotIs, filled] using passes⟩

theorem State.slotIn_armed_alone {s : State} {i : Fin 6} {f : Frame} (filled : s.frames.slots.get i = some f)
    (armed : f.state = .armed) (alone : s.aloneOnPath i) : s.slotIn (fun p => decide (p = .armed)) = some i := by
  refine State.slotIn_alone filled (decide_eq_true armed) (fun x isArmed => ?_) alone
  rw [of_decide_eq_true isArmed]
  rfl

/-- R56: the request of the one slot on the sensor path, ARMED, with no deferral held. -/
theorem State.takeStrobeRequest_armed {s : State} {i : Fin 6} {f : Frame} (asked : s.ring.request = some i)
    (filled : s.frames.slots.get i = some f) (armed : f.state = .armed) (alone : s.aloneOnPath i)
    (free : s.ring.deferral = none) :
    s.takeStrobeRequest = State.takeCapture i { s with ring := { s.ring with request := none } } := by
  rw [State.takeStrobeRequest, asked]
  refine if_pos ⟨State.slotIn_armed_alone (f := f) (by exact filled) armed (by exact alone), ?_⟩
  exact Option.isNone_iff_eq_none.mpr free

theorem State.takeStrobeRequest_dropped {s : State} {i : Fin 6} (asked : s.ring.request = some i)
    (unarmed : ∀ f, s.frames.slots.get i = some f → f.state ≠ .armed) :
    s.takeStrobeRequest = { s with ring := { s.ring with request := none } } := by
  rw [State.takeStrobeRequest, asked]
  refine if_neg fun ⟨found, _⟩ => ?_
  obtain ⟨f, filled, armed⟩ := State.slotIn_armed found
  exact unarmed f filled armed

/-- Settles O31. -/
theorem strobeRequestIsDecidedInOrder : Obligations.StrobeRequestIsDecidedInOrder := by
  intro s h
  have request : exec .strobeRequest s = .next s.takeStrobeRequest.ended := exec_ordinary h nofun nofun
  have release : exec .exclRelease s =
      .next (State.exclusionReleased { s with pins := { s.pins with excl := false } }).ended :=
    exec_ordinary h nofun nofun
  refine ⟨fun i f asked filled armed alone free => ?_, fun i asked unarmed => ?_, fun i f n held filled => ?_,
    fun free => ?_, ?_⟩
  · intro u clear
    have empty : clear ↔ u.ring.lockout.isEmpty = true := (LockoutSet.isEmpty_iff _).symm
    rw [request, State.takeStrobeRequest_armed asked filled armed alone free, State.takeCapture]
    refine ⟨fun locked => ?_, fun clear asserted => ?_, fun clear released => ?_⟩
    · rw [if_neg (empty.not.mp locked), State.abandon_eq (f := f) (by exact filled) armed (by exact alone),
        State.bankSwapped_close (State.pathIdle_abandoned (by exact alone))]
    · rw [if_pos (empty.mp clear), if_pos (by exact asserted), State.deferCapture,
        State.modifyFrame_filled (f := f) (by exact filled), State.ended_of_no_notice (by exact h.2)]
      rfl
    · rw [if_pos (empty.mp clear), if_neg (by exact ne_true_of_eq_false released), State.startStrobe_eq (by exact filled)]
  · rw [request, State.takeStrobeRequest_dropped asked unarmed, State.ended_of_no_notice (by exact h.2)]
  · rw [release, State.exclusionReleased, show s.ring.deferral = _ from held]
    dsimp only
    rw [State.startStrobe_eq (f := f) (by exact filled)]
    rfl
  · rw [release, State.exclusionReleased, show s.ring.deferral = _ from free, State.ended_of_no_notice (by exact h.2)]
  · have level : exec .exclAsserted s = .next (State.ended { s with pins := { s.pins with excl := true } }) :=
      exec_ordinary h nofun nofun
    rw [level, State.ended_of_no_notice (by exact h.2)]

/-! ## The bounds of the levels (R39, R40) -/

theorem State.clippedAt_le (d : Nat) (k : Fin 12) (s : State) :
    s.clippedAt d k ≤ 255 ∧ s.clippedAt d k ≤ (s.ring.segments.get k).hostCeiling ∧
      s.clippedAt d k ≤ groupCeiling (s.monitor.thermalStep.get ⟨k.val / 4, by omega⟩) := by
  unfold State.clippedAt
  dsimp only
  by_cases enabled : (s.ring.segments.get k).state = .enabled
  · simp only [if_pos enabled]
    omega
  · simp only [if_neg enabled]
    omega

theorem State.clippedAt_off {d : Nat} {k : Fin 12} {s : State} (off : (s.ring.segments.get k).state ≠ .enabled) :
    s.clippedAt d k = 0 :=
  if_neg off

/-- R40: scaling lowers a level. -/
theorem State.levelAt_le (d : Nat) (k : Fin 12) (s : State) : s.levelAt d k ≤ s.clippedAt d k := by
  unfold State.levelAt
  split
  case isTrue => exact Nat.le_refl _
  case isFalse scale => exact Nat.div_le_of_le_mul (Nat.mul_comm _ _ ▸ Nat.mul_le_mul_right _ (Nat.le_of_not_le scale))

/-- R40: shares of a budget, each rounded down, stay within it. -/
theorem sum_shares_le (budget total : Nat) (parts : List Nat) :
    (parts.map fun part => part * budget / total).sum ≤ parts.sum * budget / total := by
  induction parts with
  | nil => exact Nat.zero_le _
  | cons part rest ih =>
    rw [List.map_cons, List.sum_cons, List.sum_cons, Nat.add_mul]
    exact Nat.le_trans (Nat.add_le_add_left ih _) (Nat.div_add_div_le_add_div)

theorem State.sum_levelAt_le (d : Nat) (s : State) :
    ((List.finRange 12).map fun k => s.levelAt d k).sum ≤ s.budgetNow := by
  unfold State.levelAt
  by_cases fits : s.clippedSum d ≤ s.budgetNow
  · simp only [if_pos fits]
    exact fits
  · simp only [if_neg fits]
    have shares := sum_shares_le s.budgetNow (s.clippedSum d) ((List.finRange 12).map fun k => s.clippedAt d k)
    rw [List.map_map] at shares
    refine Nat.le_trans shares ?_
    rw [← State.clippedSum, Nat.mul_comm]
    exact Nat.le_of_eq (Nat.mul_div_cancel _ (by omega))

theorem State.startStrobe_ring (i : Fin 6) (s : State) :
    (s.startStrobe i).ring = s.ring.fire i s.durationNow (s.strobeLevels s.durationNow) := by
  have duration : strobeDuration s.travel.speed (s.param .blurBudget) (s.param .strobeMax) = s.durationNow := rfl
  unfold State.startStrobe
  dsimp only
  rw [duration, State.raise_if]
  rfl

/-- R39, R40: a level depends on the segment table, the derate steps and the energy requests. -/
theorem State.levelAt_congr {s u : State} (segments : u.ring.segments = s.ring.segments) (monitor : u.monitor = s.monitor)
    (balance : u.balance = s.balance) (d : Nat) (k : Fin 12) : u.levelAt d k = s.levelAt d k := by
  have clipped (j : Fin 12) : u.clippedAt d j = s.clippedAt d j := by
    unfold State.clippedAt
    rw [segments, monitor, balance]
  have sum : u.clippedSum d = s.clippedSum d :=
    congrArg List.sum (List.map_congr_left fun j _ => clipped j)
  have budget : u.budgetNow = s.budgetNow := by rw [State.budgetNow, monitor, State.budgetNow]
  rw [State.levelAt, clipped, sum, budget, State.levelAt]

/-- R39, R40, R62: what the drives of a capture strobe keep to. -/
structure State.DrivesKept (s : State) (r : RingState) (x : Strobe) : Prop where
  drives : r.drives = x.levels
  lit : r.lit = true
  expose : r.expose = true
  levels : ∃ d, ∀ k, x.levels.get k = s.levelAt d k

/-- R62: the strobe of a capture that starts. -/
theorem State.startStrobe_kept {i : Fin 6} {s u : State} {x : Strobe} (segments : u.ring.segments = s.ring.segments)
    (monitor : u.monitor = s.monitor) (balance : u.balance = s.balance)
    (lit : (u.startStrobe i).ring.strobe = some x) : s.DrivesKept (u.startStrobe i).ring x := by
  have ring := u.startStrobe_ring i
  rw [State.fire_eq] at ring
  rw [ring] at lit
  cases lit
  refine ⟨by rw [ring], by rw [ring], by rw [ring], u.durationNow, fun k => ?_⟩
  rw [Table.get_ofFn, State.levelAt_congr segments monitor balance]

/-- R57: an abandonment starts no strobe. -/
theorem State.abandon_close_strobe (i : Fin 6) (s : State) :
    (s.abandon i).closeIfIdle.ring.strobe = s.ring.strobe := by
  have abandons : (s.abandon i).ring.strobe = s.ring.strobe := by
    unfold State.abandon
    split
    · split
      · simp
      · rfl
    · rfl
  simp [abandons]

/-- R56: with no strobe lit, the strobe that a strobe request leaves is a capture's, within its bounds. -/
theorem State.takeStrobeRequest_kept {s : State} {x : Strobe} (dark : s.ring.strobe = none)
    (lit : s.takeStrobeRequest.ring.strobe = some x) : s.DrivesKept s.takeStrobeRequest.ring x := by
  have absurdly {P : Prop} (same : some x = s.ring.strobe) : P := by
    rw [dark] at same
    cases same
  unfold State.takeStrobeRequest at lit ⊢
  split at lit
  case h_1 i asked =>
    dsimp only at lit ⊢
    split at lit
    case isTrue taken =>
      rw [if_pos taken]
      unfold State.takeCapture at lit ⊢
      split at lit
      case isTrue clear =>
        rw [if_pos clear]
        split at lit
        case isTrue => exact absurdly lit.symm
        case isFalse released =>
          rw [if_neg released]
          exact State.startStrobe_kept rfl rfl rfl lit
      case isFalse => exact absurdly (lit.symm.trans (State.abandon_close_strobe i _))
    case isFalse => exact absurdly lit.symm
  case h_2 => exact absurdly lit.symm

/-- R58: the release of EXCL starts a deferred strobe, within its bounds when it is a capture's. -/
theorem State.exclusionReleased_kept {i : Fin 6} {s u : State} {x : Strobe}
    (segments : u.ring.segments = s.ring.segments) (monitor : u.monitor = s.monitor) (balance : u.balance = s.balance)
    (dark : u.ring.strobe = none) (lit : u.exclusionReleased.ring.strobe = some x) (target : x.target = .capture i) :
    s.DrivesKept u.exclusionReleased.ring x := by
  unfold State.exclusionReleased at lit ⊢
  split at lit
  case h_1 d held =>
    split at lit
    case h_1 j capture => exact State.startStrobe_kept segments monitor balance lit
    case h_2 j pulse =>
      cases lit
      cases target
  case h_2 =>
    rw [dark] at lit
    cases lit

/-- Settles O32. -/
theorem levelsStayWithinCeilingsAndBudget : Obligations.LevelsStayWithinCeilingsAndBudget := by
  intro c i x s t command h dark run lit target
  suffices kept : s.DrivesKept t.ring x by
    obtain ⟨drives, isLit, expose, d, level⟩ := kept
    refine ⟨drives, isLit, expose, fun k => ?_, ?_⟩
    · have below := s.levelAt_le d k
      obtain ⟨top, host, group⟩ := s.clippedAt_le d k
      rw [level]
      refine ⟨Nat.le_trans below top, Nat.le_trans below host, Nat.le_trans below group, fun off => ?_⟩
      exact Nat.le_zero.mp (State.clippedAt_off off ▸ below)
    · simp only [level]
      exact s.sum_levelAt_le d
  rcases command with rfl | rfl
  · have event : exec .strobeRequest s = .next s.takeStrobeRequest.ended := exec_ordinary h nofun nofun
    obtain rfl := Host.Outcome.next.inj (event.symm.trans run)
    exact State.takeStrobeRequest_kept dark lit
  · have event : exec .exclRelease s =
        .next (State.exclusionReleased { s with pins := { s.pins with excl := false } }).ended :=
      exec_ordinary h nofun nofun
    obtain rfl := Host.Outcome.next.inj (event.symm.trans run)
    exact State.exclusionReleased_kept rfl rfl rfl (by exact dark) lit target

/-! ## The deferral timer (R57, R59) -/

/-- The swap of a bank does not look at the line but for its parameters. -/
theorem State.bankSwapped_line (s : State) (l : LineState) (params : l.params = s.line.params) :
    State.bankSwapped { s with line := l } = { s.bankSwapped with line := l } := by
  have swapped := State.bankSwapped_line_run s l s.run params
  rw [← s.bankSwapped_keeps.1] at swapped
  exact s.bankSwapped_keeps.1 ▸ swapped

/-- R57: a condition raised behind the abandonment of a slot is one raised before it. -/
theorem State.abandoned_raise (c : Condition) (i : Fin 6) (f : Frame) (s : State) :
    (s.abandoned i f).bankSwapped.raise c = State.bankSwapped (State.abandoned i f { s with line := s.line.raise c }) := by
  have swapped := State.bankSwapped_line (s.abandoned i f) (s.line.raise c) (LineState.raise_params _ _)
  refine Eq.trans ?_ swapped.symm
  rw [State.raise, State.updLine, (s.abandoned i f).bankSwapped_keeps.2.1]
  rfl

/-- Settles O33. -/
theorem deferralExpiryAbandonsTheSlot : Obligations.DeferralExpiryAbandonsTheSlot := by
  intro s h
  have event : exec .deferralTimerExpiry s = .next s.deferralExpired.ended := exec_ordinary h nofun nofun
  refine ⟨fun i f n t held filled armed alone served => ?_, fun free => ?_⟩
  · rw [event, State.deferralExpired, held]
    dsimp only
    rw [State.abandon_eq filled armed alone, State.abandoned_raise,
      State.bankSwapped_close (State.pathIdle_abandoned (by exact alone)), State.servePending_eq served]
  · rw [event, State.deferralExpired, free, State.ended_of_no_notice h.2]

/-! ## The end of a strobe, and the guard (R66, R67) -/

theorem State.beginReading_eq {i : Fin 6} {f : Frame} {s : State} (filled : s.frames.slots.get i = some f) (cut : Bool) :
    s.beginReading i cut = s.reading i f cut := by
  rw [State.beginReading, State.modifyFrame_filled filled]
  rfl

/-- R60, R69: what the entry of GUARD brings leaves a slot that is EXPOSING. -/
theorem AfterEntry.keeps_exposing {why : EndReason} {s t : State} (entry : AfterEntry .guard why s t) {i : Fin 6}
    {f : Frame} (filled : s.frames.slots.get i = some f) (exposing : f.state = .exposing) :
    t.frames.slots.get i = some f := by
  have freed (j : Fin 6) (alone : s.aloneOnPath j) (g : Frame) (held : s.frames.slots.get j = some g)
      (armed : g.state = .armed) : (s.frames.slots.set j none).get i = some f := by
    have other : j ≠ i := by
      rintro rfl
      cases filled.symm.trans held
      cases exposing.symm.trans armed
    rwa [Table.get_set, if_neg other]
  cases entry with
  | nothing | closes | stops | endsTest => exact filled
  | leavesPulse => exact filled
  | cuts _ _ _ _ _ _ trip | cutsAndStops _ _ _ _ _ _ _ _ trip | cutsPulse _ _ _ _ _ trip => cases trip
  | frees c j g run opened held test dark slot armed alone =>
    change (State.bankSwapped (s.abandoned j g)).frames.slots.get i = some f
    rw [(s.abandoned j g).bankSwapped_keeps.2.2.1]
    exact freed j alone g slot armed
  | abandons d j g run held target test dark slot armed alone =>
    rw [State.pathSettled, (s.abandoned j g).runClosed.bankSwapped_keeps.2.2.1, (s.abandoned j g).runClosed_keeps.2.2.1]
    exact freed j alone g slot armed

/-- R52: a reason whose flag is raised and that stands in the lockout set brings nothing more; one that enters brings
all that an entry does. -/
theorem State.enterLockout_eq {reason : LockoutReason} {s t : State}
    (entered : s.ring.lockout.holds reason = true ∧ t = s.raise reason.condition ∨
      s.ring.lockout.holds reason = false ∧ AfterEntry reason reason.endReason
        { s with
          line := s.line.raise reason.condition
          ring := { s.ring with lockout := s.ring.lockout.put reason true } } t) :
    s.enterLockout reason = t := by
  unfold State.enterLockout
  rcases entered with ⟨held, rfl⟩ | ⟨absent, entry⟩
  · exact if_pos held
  · exact (if_neg (ne_true_of_eq_false absent)).trans (State.entry_eq entry)

/-- Settles O35. -/
theorem strobeEndAndGuardHandTheSlotOver : Obligations.StrobeEndAndGuardHandTheSlotOver := by
  intro s h
  have ends : exec .strobeEnd s = .next s.strobeEnded.ended := exec_ordinary h nofun nofun
  have expires : exec .strobeGuardExpiry s = .next s.guardExpired.ended := exec_ordinary h nofun nofun
  refine ⟨fun dark => ⟨?_, ?_⟩, fun x i f lit target filled => ?_, fun x n lit guard => ?_⟩
  · rw [ends, State.strobeEnded, dark, State.ended_of_no_notice h.2]
  · have idle : s.guardExpired = s := by
      unfold State.guardExpired
      split
      case h_1 strobe => cases strobe.symm.trans dark
      case h_2 => rfl
    rw [expires, idle, State.ended_of_no_notice h.2]
  · rw [ends, State.strobeEnded, lit]
    dsimp only
    rw [target, State.afterLight, State.beginReading_eq (f := f) (by exact filled), State.ended_of_no_notice (by exact h.2)]
    rfl
  · intro u entered t entry
    have enters : s.darkened.enterLockout .guard = t := by
      refine State.enterLockout_eq ?_
      rcases entry with ⟨held, rfl⟩ | ⟨absent, entry⟩
      · have lockout : { s.ring.lockout with guard := true } = s.ring.lockout := by rw [← held]
        refine .inl ⟨held, ?_⟩
        exact congrArg (fun l => State.darkened { s with
          line := s.line.raise .strobeOverrun
          ring := { s.ring with lockout := l } }) lockout
      · exact .inr ⟨absent, entry⟩
    have event : s.guardExpired = t.handOver x.target true := by
      rw [State.guardExpired, guard, lit]
      exact congrArg (State.handOver x.target true) enters
    refine ⟨fun i f target filled exposing => ?_, fun k target => ?_⟩
    · have kept : t.frames.slots.get i = some f := by
        rcases entry with ⟨_, rfl⟩ | ⟨_, entry⟩
        · exact filled
        · exact entry.keeps_exposing filled exposing
      rw [expires, event, target]
      exact congrArg (fun v : State => Host.Outcome.next v.ended) (State.beginReading_eq kept true)
    · rw [expires, event, target]
      rfl

end Sys2Proof.Machine

/-! PROOFS. The scan of the array (R148) and the ring self-test (R3, R4, R58, R59, R71), which lead a part from STARTUP to
READY. -/

namespace Sys2Proof.Machine

/-! ## The scan (R148) -/

/-- A canonical memory reads 255 everywhere exactly when it lists no cell. -/
theorem Memory.isErased_iff {m : Memory} (wf : m.wf = true) : m.isErased = true ↔ ∀ a, m.read a = 255 := by
  obtain ⟨cells⟩ := m
  cases cells with
  | nil => exact ⟨fun _ _ => rfl, fun _ => rfl⟩
  | cons c rest =>
    have listed : c.2 ≠ 255 := by
      simp only [Memory.wf, Memory.rising, Bool.and_eq_true, bne_iff_ne] at wf
      exact wf.1.2
    refine ⟨fun erased => ?_, fun reads => ?_⟩
    · simp only [Memory.isErased, List.all_cons, Bool.and_eq_true, beq_iff_eq] at erased
      exact absurd erased.1 listed
    · have first : c.2 = 255 := (if_pos rfl : Memory.readCells (c :: rest) c.1 = c.2).symm.trans (reads c.1)
      exact absurd first listed

/-- R147, R148: the scan judges every area by its tests. -/
theorem StoreState.scans_judged {t : StoreState} {i : Fin 16} (wf : (t.areas.get i).mem.wf = true) :
    t.scans i (t.judgedEntry i) := by
  have erased := Memory.isErased_iff wf
  unfold StoreState.judgedEntry Area.judged
  refine ⟨fun disturbed => ?_, fun calm reads => ?_, fun calm reads => ?_⟩
  · exact if_pos (Option.isSome_iff_ne_none.mpr disturbed)
  · rw [if_neg (by simp [calm]), if_pos (erased.mpr reads)]
  · have listed : ¬ (t.areas.get i).mem.isErased = true := fun all => by
      obtain ⟨o, other⟩ := reads
      exact other (erased.mp all o)
    rw [if_neg (by simp [calm]), if_neg listed]
    rfl

/-! ## The next pulse (R4) -/

theorem State.nextPulse_none {k : Nat} {s : State}
    (none : ∀ i : Fin 12, k ≤ i.val → (s.ring.segments.get i).state ≠ .enabled) : s.nextPulse k = Option.none := by
  refine List.find?_eq_none.mpr fun i _ => ?_
  simp only [Bool.and_eq_true, decide_eq_true_eq, not_and]
  exact fun from_k enabled => none i from_k (of_decide_eq_true enabled)

/-- R4: the next ENABLED segment is the lowest from `k` on. -/
theorem State.nextPulse_some {k : Nat} {i : Fin 12} {s : State} (from_k : k ≤ i.val)
    (enabled : (s.ring.segments.get i).state = .enabled)
    (lowest : ∀ j : Fin 12, k ≤ j.val → j < i → (s.ring.segments.get j).state ≠ .enabled) : s.nextPulse k = some i := by
  refine List.find?_eq_some_iff_getElem.mpr ⟨?_, i.val, by simp, by simp, fun j before => ?_⟩
  · rw [Bool.and_eq_true]
    exact ⟨decide_eq_true from_k, decide_eq_true enabled⟩
  · have below := lowest ⟨j, by omega⟩
    by_cases reached : k ≤ j
    · simpa [reached, State.segmentAt, Segment.isEnabled] using below reached before
    · simp [reached]

/-! ## What becomes of a pulse (R71) -/

/-- R71: a pulse of segment `i` is fired. -/
def State.pulseFired (i : Fin 12) (s : State) : State :=
  { s with
    run := { s.run with selfTest := some i }
    ring := { s.ring with
      segments := s.ring.segments.set i
        { s.ring.segments.get i with strobeCount := (s.ring.segments.get i).strobeCount + 1 }
      deferral := none
      strobe := some
        { target := .selfTest i, duration := 100, levels := (Table.fill 12 0).set i 64, midPassed := false }
      guard := some 125
      drives := (Table.fill 12 0).set i 64
      lit := true
      expose := false } }

/-- R71: a pulse of segment `i` is deferred. -/
def State.pulseDeferred (i : Fin 12) (s : State) : State :=
  { s with
    run := { s.run with selfTest := some i }
    ring := { s.ring with
      deferral := some { target := .selfTest i, timeout := s.line.params.value .exclTimeout } } }

section Pulse

variable {i : Fin 12} {s : State}

theorem State.requestPulse_locked (locked : s.ring.lockout.isEmpty = false) : s.requestPulse i = s.startedUp :=
  if_neg (ne_true_of_eq_false locked)

theorem State.requestPulse_fires (clear : s.ring.lockout.isEmpty = true) (released : s.pins.excl = false) :
    s.requestPulse i = s.pulseFired i :=
  (if_pos clear).trans (if_neg (ne_true_of_eq_false released))

theorem State.requestPulse_defers (clear : s.ring.lockout.isEmpty = true) (asserted : s.pins.excl = true) :
    s.requestPulse i = s.pulseDeferred i :=
  (if_pos clear).trans (if_pos asserted)

end Pulse

/-- R3: while a reason is in the lockout set, the self-test that is skipped and the one that goes on both end. -/
theorem State.beginSelfTest_eq (s : State) : s.beginSelfTest = s.continueSelfTest 0 := by
  unfold State.beginSelfTest
  split
  case isTrue => rfl
  case isFalse locked =>
    unfold State.continueSelfTest
    split
    · exact (State.requestPulse_locked (Bool.eq_false_iff.mpr locked)).symm
    · rfl

theorem State.continueSelfTest_none {k : Nat} {s : State}
    (none : ∀ i : Fin 12, k ≤ i.val → (s.ring.segments.get i).state ≠ .enabled) :
    s.continueSelfTest k = s.startedUp := by
  rw [State.continueSelfTest, State.nextPulse_none none]
  rfl

theorem State.continueSelfTest_some {k : Nat} {i : Fin 12} {s : State} (from_k : k ≤ i.val)
    (enabled : (s.ring.segments.get i).state = .enabled)
    (lowest : ∀ j : Fin 12, k ≤ j.val → j < i → (s.ring.segments.get j).state ≠ .enabled) :
    s.continueSelfTest k = s.requestPulse i := by
  rw [State.continueSelfTest, State.nextPulse_some from_k enabled lowest]

/-! ## The commands that go on with the self-test -/

theorem State.scanCompleted_eq {s : State} (scanning : s.store.scanning = true) :
    s.scanCompleted = State.continueSelfTest 0 { s with
      store := s.store.scanned
      line := if s.store.control = .bad then s.line.raise .storeError else s.line } := by
  rw [← State.beginSelfTest_eq]
  unfold State.scanCompleted
  rw [if_pos scanning]
  dsimp only
  by_cases bad : s.store.control = .bad
  · rw [if_pos bad, if_pos bad]
    rfl
  · rw [if_neg bad, if_neg bad]
    rfl

/-- Settles O36. -/
theorem scanAndSelfTestLeadToReady : Obligations.ScanAndSelfTestLeadToReady := by
  intro s h clear enabled ready pulsed held goesOn
  have empty : clear ↔ s.ring.lockout.isEmpty = true := (LockoutSet.isEmpty_iff _).symm
  have goes (c : Instr) (k : Nat) (u : State) (event : exec c s = .next (u.continueSelfTest k).ended)
      (segments : u.ring.segments = s.ring.segments) (lockout : u.ring.lockout = s.ring.lockout)
      (pins : u.pins = s.pins) (params : u.line.params = s.line.params) : goesOn c k u := by
    refine ⟨fun none => ?_, fun i from_k on lowest => ?_⟩
    · rw [event, State.continueSelfTest_none (by rw [segments]; exact none)]
    · rw [event, State.continueSelfTest_some from_k (by rw [segments]; exact on) (by rw [segments]; exact lowest)]
      refine ⟨fun locked => ?_, fun unlocked released => ?_, fun unlocked asserted => ?_⟩
      · rw [State.requestPulse_locked (by rw [lockout]; exact Bool.eq_false_iff.mpr (empty.not.mp locked))]
      · rw [State.requestPulse_fires (by rw [lockout]; exact empty.mp unlocked) (by rw [pins]; exact released)]
        rfl
      · rw [State.requestPulse_defers (by rw [lockout]; exact empty.mp unlocked) (by rw [pins]; exact asserted),
          State.pulseDeferred, params]
  have scan : exec .storeScanComplete s = .next s.scanCompleted.ended := exec_ordinary h nofun nofun
  refine ⟨fun scanning => ⟨Table.ofFn s.store.judgedEntry, fun wf i => ?_, ?_⟩, fun idle => ?_,
    fun x i lit target tests => ?_, fun i n deferred => ?_, fun i n deferred tests => ?_⟩
  · rw [Table.get_ofFn]
    exact StoreState.scans_judged (wf i)
  · rw [State.scanCompleted_eq scanning] at scan
    refine goes _ _ _ ?_ rfl rfl rfl ?_
    · exact scan
    · dsimp only
      split
      · exact LineState.raise_params _ _
      · rfl
  · rw [scan, State.scanCompleted, if_neg (by simp [idle]), State.ended_of_no_notice h.2]
  · have event : exec .strobeEnd s = .next s.strobeEnded.ended := exec_ordinary h nofun nofun
    rw [State.strobeEnded, lit] at event
    dsimp only at event
    rw [target, State.afterLight, if_pos (by exact Option.isSome_iff_ne_none.mpr tests)] at event
    exact goes _ _ _ event rfl rfl rfl rfl
  · have event : exec .deferralTimerExpiry s = .next s.deferralExpired.ended := exec_ordinary h nofun nofun
    rw [State.deferralExpired, deferred] at event
    exact goes _ _ _ event rfl rfl rfl (LineState.raise_params _ _)
  · have event : exec .exclRelease s =
        .next (State.exclusionReleased { s with pins := { s.pins with excl := false } }).ended :=
      exec_ordinary h nofun nofun
    rw [event, State.exclusionReleased, show s.ring.deferral = _ from deferred]
    have run : { s.run with selfTest := some i } = s.run := by rw [← tests]
    exact congrArg (fun r => Host.Outcome.next (State.ended { State.pulseFired i s with
      run := r
      pins := { s.pins with excl := false } })) run.symm

end Sys2Proof.Machine

/-! PROOFS. The mid-strobe point: the health samples of a strobe (R43 to R46) and its strobe reading (R65, R76). -/

namespace Sys2Proof.Machine

/-! ## One sample (R43 to R46) -/

theorem Segment.sampled_eq (x : Sample) (g : Segment) : g.sampled x = g.after (some x) := by
  have second (n : Nat) : 2 ≤ n + 1 ↔ ¬ n = 0 := by omega
  have fourth (n : Nat) : 4 ≤ n + 1 ↔ ¬ n < 3 := by omega
  cases x with
  | good => rfl
  | weak => simp only [Segment.sampled, Segment.weakSample, Segment.after, fourth, ite_not]
  | openString =>
    by_cases first : g.faultCount = 0 <;> simp [Segment.sampled, Segment.faultSample, Segment.after, second, first]
  | shorted =>
    by_cases first : g.faultCount = 0 <;> simp [Segment.sampled, Segment.faultSample, Segment.after, second, first]

theorem Segment.pulseSampled_eq (x : Sample) (g : Segment) : g.pulseSampled x = g.afterPulse (some x) := by
  cases x <;> rfl

/-- R44 to R46: the record of a segment after its sample in a strobe of this target. -/
def Segment.judgedIn (target : StrobeTarget) (o : Option Sample) (g : Segment) : Segment :=
  match target with
  | .capture _ => g.after o
  | .selfTest _ => g.afterPulse o

theorem Segment.judgedIn_none (target : StrobeTarget) (g : Segment) : g.judgedIn target none = g := by
  cases target <;> rfl

/-- R44 to R46: the condition that a sample raises, judged on the record it leaves. -/
def raisedOn (o : Option Sample) (g : Segment) : Option Condition :=
  o.bind fun x => x.raised g

theorem raisedOn_iff (o : Option Sample) (g : Segment) (c : Condition) :
    raisedOn o g = some c ↔ c = .segmentFault ∧ (o = some .openString ∨ o = some .shorted) ∧ g.faultCount = 2 ∨
      c = .segmentWeak ∧ o = some .weak ∧ g.weakCount = 4 := by
  rcases o with _ | x
  · simp [raisedOn]
  · cases x <;> simp [raisedOn, Sample.raised, eq_comm, and_comm]

/-- R43: the sample of a segment is that of the comparators. -/
theorem State.sampleAt_eq (q : StrobeSenses) (x : Strobe) (s : State) (k : Fin 12) :
    s.sampleAt q x k = sampleOutcome q (s.line.params.value .checkFraction) (s.line.params.value .shortFraction)
      (x.levels.get k) k := by
  unfold State.sampleAt sampleOutcome sampleOf
  by_cases low : x.levels.get k < 32
  · rw [if_neg (Nat.not_le.mpr low), if_pos low]
  · rw [if_pos (Nat.not_lt.mp low), if_neg low]
    simp only [apply_ite some]
    rfl

theorem Table.set_get {n : Nat} {α : Type} (t : Table n α) (i : Fin n) : t.set i (t.get i) = t :=
  Table.eq_of_get fun j => by
    rw [Table.get_set]
    split
    case isTrue same => rw [same]
    case isFalse => rfl

/-- R44 to R46: one sample applied, where the segment's record may stay as it is. -/
theorem State.applySample_eq (q : StrobeSenses) (x : Strobe) (s : State) (k : Fin 12) :
    s.applySample q x k =
      (s.putSegment k ((s.segmentAt k).judgedIn x.target (s.sampleAt q x k))).raiseSome
        (raisedOn (s.sampleAt q x k) ((s.segmentAt k).judgedIn x.target (s.sampleAt q x k))) := by
  unfold State.applySample
  cases s.sampleAt q x k with
  | none =>
    rw [Segment.judgedIn_none, State.putSegment, State.updRing, State.segmentAt, Table.set_get]
    rfl
  | some y =>
    obtain ⟨target⟩ := x
    cases target
    · simp only [Segment.sampled_eq]
      rfl
    · simp only [Segment.pulseSampled_eq]
      rfl

/-! ## The samples of a strobe -/

/-- The samples of some segments applied, each given by `o`: the records and the conditions they leave. -/
structure State.SamplesApplied (o : Fin 12 → Option Sample) (target : StrobeTarget) (l : List (Fin 12))
    (s t : State) : Prop where
  rest : t = { s with
    line := { s.line with conditions := t.line.conditions, staged := t.line.staged }
    ring := { s.ring with segments := t.ring.segments } }
  segments : ∀ k, t.ring.segments.get k =
    if k ∈ l then (s.ring.segments.get k).judgedIn target (o k) else s.ring.segments.get k
  conditions : ∀ c : Condition, c.isIn t.line.conditions = true ↔ c.isIn s.line.conditions = true ∨
    ∃ k ∈ l, raisedOn (o k) ((s.ring.segments.get k).judgedIn target (o k)) = some c

theorem Condition.isIn_raise (c d : Condition) (l : LineState) :
    d.isIn (l.raise c).conditions = true ↔ d.isIn l.conditions = true ∨ d = c := by
  cases held : c.isIn l.conditions with
  | true =>
    rw [LineState.raise_of_isIn held]
    exact ⟨.inl, fun h => h.elim id fun same => same ▸ held⟩
  | false =>
    rw [LineState.raise_of_clear held, Condition.isIn_addTo, Bool.or_eq_true, decide_eq_true_eq]

theorem State.raiseSome_rest (c : Option Condition) (s : State) :
    s.raiseSome c = { s with line := { s.line with
      conditions := (s.raiseSome c).line.conditions
      staged := (s.raiseSome c).line.staged } } := by
  cases c with
  | none => rfl
  | some c =>
    unfold State.raiseSome State.raise State.updLine LineState.raise
    dsimp only
    split <;> rfl

theorem State.raiseSome_conditions (c : Option Condition) (d : Condition) (s : State) :
    d.isIn (s.raiseSome c).line.conditions = true ↔ d.isIn s.line.conditions = true ∨ c = some d := by
  cases c with
  | none => exact ⟨.inl, fun h => h.elim id nofun⟩
  | some c =>
    refine (Condition.isIn_raise c d s.line).trans (or_congr_right ?_)
    rw [Option.some_inj, eq_comm]

/-- The sample of one more segment. -/
theorem State.SamplesApplied.snoc {q : StrobeSenses} {x : Strobe} {o : Fin 12 → Option Sample} {l : List (Fin 12)}
    {s t : State} (h : State.SamplesApplied o x.target l s t) {k : Fin 12} (fresh : k ∉ l)
    (sample : t.sampleAt q x k = o k) : State.SamplesApplied o x.target (l ++ [k]) s (t.applySample q x k) := by
  have record : t.segmentAt k = s.ring.segments.get k := (h.segments k).trans (if_neg fresh)
  have judged := State.applySample_eq q x t k
  rw [sample, record] at judged
  refine ⟨?_, fun j => ?_, fun c => ?_⟩
  · rw [judged, State.raiseSome_rest, h.rest]
    rfl
  · have set : (t.applySample q x k).ring.segments =
        t.ring.segments.set k ((s.ring.segments.get k).judgedIn x.target (o k)) := by
      rw [judged, State.raiseSome_rest]
      rfl
    rw [set, Table.get_set, h.segments j]
    by_cases same : k = j
    · subst same
      simp
    · have other : ¬ j = k := fun e => same e.symm
      simp [same, other]
  · rw [judged, State.raiseSome_conditions]
    refine (or_congr_left (h.conditions c)).trans ?_
    simp only [List.mem_append, List.mem_singleton, or_and_right, exists_or, exists_eq_left, or_assoc]

theorem State.SamplesApplied.params {o : Fin 12 → Option Sample} {target : StrobeTarget} {l : List (Fin 12)}
    {s t : State} (h : State.SamplesApplied o target l s t) : t.line.params = s.line.params := by
  rw [h.rest]

/-- R65: the samples of any segments, each taken once. -/
theorem State.samplesApplied_foldl (q : StrobeSenses) (x : Strobe) (s : State) {l : List (Fin 12)} (once : l.Nodup) :
    State.SamplesApplied (s.sampleAt q x) x.target l s (l.foldl (State.applySample q x) s) := by
  induction l using List.reverseRecOn with
  | nil => exact ⟨rfl, fun k => by simp, fun c => by simp⟩
  | append_singleton l k ih =>
    obtain ⟨before, _, fresh⟩ := List.nodup_append.mp once
    have applied := ih before
    rw [List.foldl_append, List.foldl_cons, List.foldl_nil]
    refine applied.snoc (fun inside => fresh k inside k (List.mem_singleton_self k) rfl) ?_
    rw [State.sampleAt_eq, applied.params, State.sampleAt_eq]

/-! ## The mid-strobe point (R65) -/

theorem LineState.flush_eq (l : LineState) : l.flush = { l with
    staged := []
    outbound := l.outbound ++ (l.staged.take (14 - l.outbound.length)).map OutMessage.notice
    conditions :=
      if 14 - l.outbound.length < l.staged.length then Condition.addTo .noticeLost l.conditions else l.conditions } :=
  LineState.foldl_placeNotice l.staged { l with staged := [] }

/-- R164: the end of an event sets NOTICE_LOST at most. -/
theorem LineState.flush_conditions {c : Condition} (other : c ≠ .noticeLost) (l : LineState) :
    c.isIn l.flush.conditions = c.isIn l.conditions := by
  rw [LineState.flush_eq]
  dsimp only
  split
  · rw [Condition.isIn_addTo, decide_eq_false other, Bool.or_false]
  · rfl

/-- R164: the end of an event of a line that only conditions and notices were added to. -/
theorem LineState.flush_of_raised {l m : LineState}
    (raised : m = { l with conditions := m.conditions, staged := m.staged }) (quiet : l.staged = []) :
    m.flush = { l with conditions := m.flush.conditions, outbound := m.flush.outbound } := by
  obtain ⟨receiver, inbound, inHand, outbound, onLine, lastParty, conditions, params, staged⟩ := l
  obtain ⟨_, _, _, _, _, _, _, _, _⟩ := m
  cases raised
  cases quiet
  rw [LineState.flush_eq]

/-- R65, R76: the strobe reading of a capture's strobe. -/
theorem State.strobeReading_rest (target : StrobeTarget) (s : State) :
    s.strobeReading target = { s with monitor := (s.strobeReading target).monitor } := by
  unfold State.strobeReading
  split
  · split <;> rfl
  · rfl

theorem State.strobeReading_capture {i : Fin 6} {f : Frame} {s : State} (filled : s.frames.slots.get i = some f) :
    (s.strobeReading (.capture i)).monitor = { s.monitor with
      conversion := some
        { channel := .supply, kind := .strobe i f.number, resolution := s.line.params.value .adcResolution } } := by
  rw [State.strobeReading, State.frameAt, filled]
  rfl

/-- R65: the part with the strobe's point passed. -/
def State.midPassed (x : Strobe) (s : State) : State :=
  { s with ring := { s.ring with strobe := some { x with midPassed := true } } }

theorem State.midPoint_eq {q : StrobeSenses} {x : Strobe} {s : State} (lit : s.ring.strobe = some x)
    (ahead : x.midPassed = false) :
    s.midPoint q = ((List.finRange 12).foldl (State.applySample q x) (s.midPassed x)).strobeReading x.target := by
  rw [State.midPoint, lit]
  exact if_neg (ne_true_of_eq_false ahead)

/-- Settles O34. -/
theorem midStrobeSamplesTheSegments : Obligations.MidStrobeSamplesTheSegments := by
  intro q x s h lit
  have event : exec (.midStrobe q) s = .next (s.midPoint q).ended := exec_ordinary h nofun nofun
  refine ⟨fun passed => ?_, fun ahead => ?_⟩
  · have stays : s.midPoint q = s := by
      rw [State.midPoint, lit]
      exact if_pos passed
    rw [event, stays, State.ended_of_no_notice h.2]
  · intro sample pulse
    obtain ⟨u, isU⟩ : ∃ u, u = (List.finRange 12).foldl (State.applySample q x) (s.midPassed x) := ⟨_, rfl⟩
    have applied : State.SamplesApplied sample x.target (List.finRange 12) (s.midPassed x) u := by
      have samples : (s.midPassed x).sampleAt q x = sample := funext fun k => State.sampleAt_eq q x _ k
      rw [isU, ← samples]
      exact State.samplesApplied_foldl q x _ (List.nodup_finRange 12)
    have judged (k : Fin 12) : u.ring.segments.get k = (s.ring.segments.get k).judgedIn x.target (sample k) :=
      (applied.segments k).trans (if_pos (List.mem_finRange k))
    have reading := State.strobeReading_rest x.target u
    rw [State.midPoint_eq lit ahead, ← isU, reading] at event
    refine ⟨_, u.ring.segments, event, fun k => ⟨fun isPulse => ?_, fun capture => ?_⟩, fun c other => ?_, ?_,
      fun isPulse => ?_, fun i f target filled => ?_⟩
    · obtain ⟨i, target⟩ := isPulse
      rw [judged, target]
      rfl
    · rw [judged]
      cases target : x.target with
      | capture i => rfl
      | selfTest i => exact absurd ⟨i, target⟩ capture
    · refine (Bool.eq_iff_iff.mp (LineState.flush_conditions other u.line)).trans ((applied.conditions c).trans ?_)
      refine or_congr_right ?_
      simp only [List.mem_finRange, true_and, judged, raisedOn_iff, exists_or, exists_and_left]
      rfl
    · have line : u.line.flush =
          { s.line with conditions := u.line.flush.conditions, outbound := u.line.flush.outbound } :=
        LineState.flush_of_raised (by rw [applied.rest]; rfl) h.2
      have ring : u.ring =
          { s.ring with strobe := some { x with midPassed := true }, segments := u.ring.segments } := by
        rw [applied.rest]
        rfl
      have shape : u = { s with line := u.line, ring := u.ring } := by
        rw [applied.rest]
        rfl
      refine (congrArg (fun v : State =>
        State.ended { v with monitor := (u.strobeReading x.target).monitor }) shape).trans ?_
      dsimp only [State.ended]
      rw [line, ring]
    · obtain ⟨i, target⟩ := isPulse
      change (u.strobeReading x.target).monitor = s.monitor
      rw [target, applied.rest]
      rfl
    · change (u.strobeReading x.target).monitor = _
      have kept : u.frames.slots.get i = some f := by
        rw [applied.rest]
        exact filled
      have monitor : u.monitor = s.monitor := by
        rw [applied.rest]
        rfl
      rw [target, State.strobeReading_capture kept, monitor, applied.params]
      rfl

end Sys2Proof.Machine

/-! PROOFS. The rest readings of the supply monitor and their tests (R74, R75, R80, R82 to R84), with what the entry of a
reason into the lockout set brings to the conversion that follows (R52, R53). -/

namespace Sys2Proof.Machine

/-! ## What an entry leaves of the monitor and the line (R52) -/

theorem State.bankSwapped_monitor (m : MonitorState) (s : State) :
    State.bankSwapped { s with monitor := m } = { s.bankSwapped with monitor := m } := by
  unfold State.bankSwapped
  dsimp only
  generalize (if s.engine.bankB.state = .current then BankId.a else .b) = w
  by_cases loaded : (s.engine.bank w).state = .loaded
  · simp only [loaded, if_true]
    rfl
  · simp only [loaded, if_false]

theorem State.runClosed_monitor (m : MonitorState) (s : State) :
    State.runClosed { s with monitor := m } = { s.runClosed with monitor := m } := by
  unfold State.runClosed
  dsimp only
  split
  · split <;> rfl
  · rfl

theorem State.pathSettled_monitor (m : MonitorState) (s : State) :
    State.pathSettled { s with monitor := m } = { s.pathSettled with monitor := m } := by
  rw [State.pathSettled, State.runClosed_monitor, State.bankSwapped_monitor]
  rfl

theorem State.closedFreeing_monitor (reason : EndReason) (part : PartState) (c : RunRecord) (i : Fin 6) (f : Frame)
    (m : MonitorState) (s : State) :
    State.closedFreeing reason part c i f { s with monitor := m } =
      { s.closedFreeing reason part c i f with monitor := m } := by
  have swapped := State.bankSwapped_monitor m (s.abandoned i f)
  exact congrArg (State.closed reason part _) swapped

/-- R52: what an entry brings does not look at the monitor, and leaves it. -/
theorem AfterEntry.withMonitor {reason : LockoutReason} {why : EndReason} {s t : State}
    (entry : AfterEntry reason why s t) (m : MonitorState) :
    AfterEntry reason why { s with monitor := m } { t with monitor := m } := by
  cases entry with
  | nothing run held test dark => exact .nothing run held test dark
  | cuts x i f run held test trip lit target slot => exact .cuts x i f run held test trip lit target slot
  | closes c run opened held test dark idle => exact .closes c run opened held test dark idle
  | stops c run opened held test dark busy unarmed => exact .stops c run opened held test dark busy unarmed
  | cutsAndStops c x i f run opened held test trip lit target slot unarmed =>
    exact .cutsAndStops c x i f run opened held test trip lit target slot unarmed
  | frees c i f run opened held test dark slot armed alone =>
    rw [← State.closedFreeing_monitor]
    exact .frees c i f run opened held test dark slot armed alone
  | abandons d i f run held target test dark slot armed alone =>
    rw [← State.pathSettled_monitor]
    exact .abandons d i f run held target test dark slot armed alone
  | endsTest run held test dark => exact .endsTest run held test dark
  | cutsPulse x k run held test trip lit target => exact .cutsPulse x k run held test trip lit target
  | leavesPulse x k run held test low lit target => exact .leavesPulse x k run held test low lit target

theorem State.bankSwapped_line_monitor (s : State) :
    s.bankSwapped.line = s.line ∧ s.bankSwapped.monitor = s.monitor := by
  refine ⟨s.bankSwapped_keeps.2.1, ?_⟩
  rcases s.bankSwapped_cases with same | ⟨w, swaps⟩
  · rw [same]
  · rw [swaps]
    rfl

/-- The conditions and the parameters of the line, and the monitor, are as they were. -/
def State.sameReadings (s t : State) : Prop :=
  t.line.conditions = s.line.conditions ∧ t.line.params = s.line.params ∧ t.monitor = s.monitor

theorem State.sameReadings_runClosed (s : State) : s.sameReadings s.runClosed := by
  unfold State.runClosed
  split
  · split <;> exact ⟨rfl, rfl, rfl⟩
  · exact ⟨rfl, rfl, rfl⟩

theorem State.sameReadings_bankSwapped (s : State) : s.sameReadings s.bankSwapped := by
  obtain ⟨line, monitor⟩ := s.bankSwapped_line_monitor
  unfold State.sameReadings
  rw [line, monitor]
  exact ⟨rfl, rfl, rfl⟩

theorem AfterEntry.sameReadings {reason : LockoutReason} {why : EndReason} {s t : State}
    (entry : AfterEntry reason why s t) : s.sameReadings t := by
  cases entry with
  | nothing | cuts | closes | stops | cutsAndStops | endsTest | cutsPulse | leavesPulse => exact ⟨rfl, rfl, rfl⟩
  | frees c i f => exact (s.abandoned i f).sameReadings_bankSwapped
  | abandons d i f =>
    obtain ⟨conditions, params, monitor⟩ := (s.abandoned i f).sameReadings_runClosed
    obtain ⟨conditionsAfter, paramsAfter, monitorAfter⟩ := (s.abandoned i f).runClosed.sameReadings_bankSwapped
    exact ⟨conditionsAfter.trans conditions, paramsAfter.trans params, monitorAfter.trans monitor⟩

/-! ## The release of a reason (R53) -/

theorem State.testRelease_flagged {reason : LockoutReason} {s : State}
    (flagged : reason.condition.isIn s.line.conditions = true) : s.testRelease reason = s := by
  rw [State.testRelease_eq, flagged, Bool.true_or, Bool.and_true, LockoutSet.put_holds]

theorem State.testRelease_going {reason : LockoutReason} {s : State} (going : s.causeEnded reason = false) :
    s.testRelease reason = s := by
  rw [State.testRelease_eq, going, Bool.not_false, Bool.or_true, Bool.and_true, LockoutSet.put_holds]

theorem State.testRelease_released {reason : LockoutReason} {s : State}
    (clear : reason.condition.isIn s.line.conditions = false) (ended : s.causeEnded reason = true) :
    s.testRelease reason = { s with ring := { s.ring with lockout := s.ring.lockout.put reason false } } := by
  rw [State.testRelease_eq, clear, ended, Bool.not_true, Bool.or_false, Bool.and_false]

/-- R53: the supply has recovered. -/
theorem State.causeEnded_supply {s : State} {v : Int} (reading : s.monitor.rest.get 0 = some v) :
    s.causeEnded .supply = !decide (v < 150 + 10 * (s.line.params.value .supplyLowLevel : Int) + 10) := by
  rw [State.causeEnded, reading, readingIs, ← decide_not, supplyThreshold]
  exact decide_eq_decide.mpr Int.not_lt.symm

theorem readingIs_iff (p : Int → Bool) (o : Option Int) : readingIs p o = true ↔ ∃ v, o = some v ∧ p v = true := by
  cases o <;> simp [readingIs]

/-- R53: the ring has cooled. -/
theorem State.causeEnded_thermal_iff (s : State) :
    s.causeEnded .thermal = true ↔ s.monitor.cooled (s.line.params.value .thermalTripLevel) := by
  have below (v : Int) : v < (s.line.params.value .thermalTripLevel : Int) - 10 ↔
      v + 10 < (s.line.params.value .thermalTripLevel : Int) := by omega
  simp only [State.causeEnded, Bool.and_eq_true, readingIs_iff, decide_eq_true_eq, State.param, below,
    MonitorState.cooled]
  constructor
  · rintro ⟨⟨first, second⟩, third⟩ c (rfl | rfl | rfl)
    · exact first
    · exact second
    · exact third
  · intro all
    exact ⟨⟨all 1 (.inl rfl), all 2 (.inr (.inl rfl))⟩, all 3 (.inr (.inr rfl))⟩

/-! ## The entry that a reading brings -/

theorem State.startScan_raise (c : Condition) (s : State) : (s.raise c).startScan = s.startScan.raise c := by
  rw [State.startScan, State.param, State.raise, State.updLine_line, LineState.raise_params]
  rfl

/-- R52, R74: a reason that a reading puts into the lockout set stays there, and the next scan conversion starts. -/
theorem State.enterLockout_scan {reason : LockoutReason} {u t : State}
    (entered : u.ring.lockout.holds reason = true ∧ t = u.startScan.raise reason.condition ∨
      u.ring.lockout.holds reason = false ∧ AfterEntry reason reason.endReason
        { u.startScan with
          line := u.line.raise reason.condition
          ring := { u.ring with lockout := u.ring.lockout.put reason true } } t) :
    ((u.enterLockout reason).testRelease reason).startScan = t := by
  have flagged : reason.condition.isIn (u.line.raise reason.condition).conditions = true :=
    (Condition.isIn_raise _ _ u.line).mpr (.inr rfl)
  rcases entered with ⟨held, rfl⟩ | ⟨absent, entry⟩
  · rw [State.enterLockout_eq (.inl ⟨held, rfl⟩), State.testRelease_flagged (by exact flagged), State.startScan_raise]
  · obtain ⟨conditions, params, monitor⟩ := entry.sameReadings
    have enters := State.enterLockout_eq (.inr ⟨absent, entry.withMonitor u.monitor⟩)
    rw [enters, State.testRelease_flagged (by rw [conditions]; exact flagged)]
    have next : t.line.params.value .adcResolution = u.line.params.value .adcResolution := by
      rw [params, LineState.raise_params]
    unfold State.startScan State.param
    rw [next]
    exact congrArg (fun m => { t with monitor := m }) monitor.symm

/-! ## The result of a scan conversion (R74, R75) -/

/-- R74, R75: the monitor once a scan conversion's result is the rest reading of its channel, before the tests. -/
def MonitorState.withRestReading (channel : Channel) (v : Int) (resolution : Nat) (m : MonitorState) : MonitorState :=
  { m with
    conversion := none
    rest := m.rest.set channel.index (some v)
    lastResolution := some resolution
    scanPosition := channel.next }

theorem heldCelsius_eq {t : Int} (low : -40 ≤ t) (high : t ≤ 150) : heldCelsius t = t := by
  unfold heldCelsius
  omega

theorem State.scanEnded_eq {s : State} {channel : Channel} {res : Nat}
    (inFlight : s.monitor.conversion = some { channel := channel, kind := .scan, resolution := res }) (code : Nat)
    (celsius : Int) :
    s.scanEnded code celsius =
      ((s.updMonitor (MonitorState.withRestReading channel (readingOf channel res code celsius) res)).handOnReading
        channel (readingOf channel res code celsius)).startScan := by
  rw [State.scanEnded, inFlight]
  rfl

/-- R82, R83: a ring reading sets its step, and a step that leaves 0 raises THERMAL_DERATE. -/
theorem State.startScan_derate (g : Fin 3) (v : Int) (u : State) :
    (u.derate g v).startScan = { u.startScan with
      monitor := { u.startScan.monitor with
        thermalStep := u.monitor.thermalStep.set g (derateStep v (u.line.params.value .thermalDerateStart)) }
      line :=
        if u.monitor.thermalStep.get g = 0 ∧ 0 < derateStep v (u.line.params.value .thermalDerateStart) then
          u.line.raise .thermalDerate
        else u.line } := by
  unfold State.derate
  dsimp only [State.param]
  split
  case isTrue leaves => rw [State.startScan_raise]; rfl
  case isFalse stays => rfl

theorem State.derate_keeps_readings (g : Fin 3) (v : Int) (u : State) :
    (u.derate g v).line.params = u.line.params ∧ (u.derate g v).monitor.rest = u.monitor.rest ∧
      (u.derate g v).ring = u.ring ∧
      (Condition.thermalTrip.isIn (u.derate g v).line.conditions = Condition.thermalTrip.isIn u.line.conditions) := by
  unfold State.derate
  dsimp only
  split
  case isTrue leaves =>
    refine ⟨LineState.raise_params _ _, rfl, rfl, Bool.eq_iff_iff.mpr ?_⟩
    exact (Condition.isIn_raise _ _ u.line).trans (or_iff_left nofun)
  case isFalse stays => exact ⟨rfl, rfl, rfl, rfl⟩

/-- R53, R84: a ring reading below the trip level leaves THERMAL in the set while its flag is raised or the ring has not
cooled. -/
theorem State.ringReading_stays {g : Fin 3} {v : Int} {u : State} (below : v < (u.line.params.value .thermalTripLevel : Int))
    (stays : Condition.thermalTrip.isIn u.line.conditions = true ∨
      ¬ u.monitor.cooled (u.line.params.value .thermalTripLevel)) :
    u.ringReading g v = u.derate g v := by
  obtain ⟨params, rest, -, flag⟩ := u.derate_keeps_readings g v
  have noTrip : (u.derate g v).tripTest v = u.derate g v := by
    rw [State.tripTest, State.param, params, if_neg (by omega)]
  rw [State.ringReading, noTrip]
  rcases stays with flagged | warm
  · exact State.testRelease_flagged (flag.trans flagged)
  · refine State.testRelease_going (Bool.eq_false_iff.mpr fun ended => warm ?_)
    have cooled := (State.causeEnded_thermal_iff _).mp ended
    rwa [params, MonitorState.cooled, rest] at cooled

/-- R53, R84: THERMAL leaves the set once its flag is clear and the ring has cooled. -/
theorem State.ringReading_leaves {g : Fin 3} {v : Int} {u : State} (below : v < (u.line.params.value .thermalTripLevel : Int))
    (clear : Condition.thermalTrip.isIn u.line.conditions = false)
    (cooled : u.monitor.cooled (u.line.params.value .thermalTripLevel)) :
    u.ringReading g v =
      { u.derate g v with ring := { u.ring with lockout := { u.ring.lockout with thermal := false } } } := by
  obtain ⟨params, rest, ring, flag⟩ := u.derate_keeps_readings g v
  have noTrip : (u.derate g v).tripTest v = u.derate g v := by
    rw [State.tripTest, State.param, params, if_neg (by omega)]
  have ended : (u.derate g v).causeEnded .thermal = true := by
    rw [State.causeEnded_thermal_iff, params, MonitorState.cooled, rest]
    exact cooled
  have released := State.testRelease_released (reason := .thermal) (flag.trans clear) ended
  rw [State.ringReading, noTrip, released, ring]
  rfl

theorem State.ringReading_trips {g : Fin 3} {v : Int} {u : State}
    (trips : (u.line.params.value .thermalTripLevel : Int) ≤ v) :
    u.ringReading g v = ((u.derate g v).enterLockout .thermal).testRelease .thermal := by
  rw [State.ringReading, State.tripTest, State.param, (u.derate_keeps_readings g v).1, if_pos trips]

/-! ## The low-supply test (R80) -/

/-- The part with the count of low supply readings in a row as given. -/
def State.withLowStreak (n : Nat) (u : State) : State :=
  u.updMonitor fun m => { m with lowStreak := n }

/-- R80, R53: a supply reading at the level ends the count, and SUPPLY leaves the set once its flag is clear and the
supply has recovered. -/
theorem State.supplyReading_enough {v : Int} {u : State} (reading : u.monitor.rest.get 0 = some v)
    (enough : supplyThreshold (u.line.params.value .supplyLowLevel) ≤ v) :
    u.handOnReading .supply v = { u.withLowStreak 0 with
      ring := { u.ring with
        lockout := { u.ring.lockout with
          supply := u.ring.lockout.supply && (u.line.conditions.getLsbD 7 ||
            decide (v < 150 + 10 * (u.line.params.value .supplyLowLevel : Int) + 10)) } } } := by
  have ended : (u.withLowStreak 0).causeEnded .supply =
      !decide (v < 150 + 10 * (u.line.params.value .supplyLowLevel : Int) + 10) := State.causeEnded_supply reading
  have tested : u.lowSupplyTest v = u.withLowStreak 0 := if_pos enough
  rw [State.handOnReading, tested, State.testRelease_eq, ended, Bool.not_not]
  rfl

/-- R80, R53: a first reading below the level is counted; the supply has not recovered. -/
theorem State.supplyReading_first {v : Int} {u : State} (reading : u.monitor.rest.get 0 = some v)
    (short : v < supplyThreshold (u.line.params.value .supplyLowLevel)) (first : u.monitor.lowStreak = 0) :
    u.handOnReading .supply v = u.withLowStreak 1 := by
  have tested : u.lowSupplyTest v = u.withLowStreak 1 := (if_neg (by exact short.not_ge)).trans (if_pos first)
  have going : (u.withLowStreak 1).causeEnded .supply = false := by
    rw [State.causeEnded_supply (s := u.withLowStreak 1) reading, Bool.not_eq_false', decide_eq_true_eq]
    exact short.trans (Int.lt_add_of_pos_right _ (by decide))
  rw [State.handOnReading, tested, State.testRelease_going going]

/-- R80: a second reading in a row below the level enters SUPPLY. -/
theorem State.supplyReading_again {v : Int} {u : State}
    (short : v < supplyThreshold (u.line.params.value .supplyLowLevel)) (again : u.monitor.lowStreak ≠ 0) :
    u.handOnReading .supply v = ((u.withLowStreak 0).enterLockout .supply).testRelease .supply := by
  have tested : u.lowSupplyTest v = (u.withLowStreak 0).enterLockout .supply :=
    (if_neg (by exact short.not_ge)).trans (if_neg again)
  rw [State.handOnReading, tested]

/-- Settles O37. -/
theorem restReadingsGoThroughTheirTests : Obligations.RestReadingsGoThroughTheirTests := by
  intro code res celsius channel s h inFlight fits low high v next m r
  have reading : readingOf channel res code celsius = v := by
    cases channel with
    | supply | ref => exact congrArg Int.ofNat (scaledReading_eq fits _)
    | ringT0 | ringT1 | ringT2 | boardT => exact heldCelsius_eq low high
  have following : channel.next = next := by cases channel <;> rfl
  have ends {t u : State} (handed : (s.updMonitor (MonitorState.withRestReading channel v res)).handOnReading channel v
      = u) (scans : u.startScan = t) : r t.ended := by
    have scanned := State.scanEnded_eq inFlight code celsius
    rw [reading, handed, scans] at scanned
    have event : exec (.scanConversionEnd code celsius) s = .next (s.scanEnded code celsius).ended :=
      exec_ordinary h nofun nofun
    exact event.trans (congrArg (fun t => Host.Outcome.next (State.ended t)) scanned)
  have quiet {t u : State} (handed : (s.updMonitor (MonitorState.withRestReading channel v res)).handOnReading channel v
      = u) (scans : u.startScan = t) (line : t.line = s.line) : r t := by
    have done := ends handed scans
    rwa [State.ended_of_no_notice (by rw [line]; exact h.2)] at done
  clear_value v
  refine ⟨fun untested => ?_, ?_, ?_⟩
  · rcases untested with rfl | rfl
    · exact quiet rfl rfl rfl
    · exact quiet rfl rfl rfl
  · rintro rfl threshold lowered raised entered
    have latest : (s.monitor.rest.set 0 (some v)).get 0 = some v := by rw [Table.get_set, if_pos rfl]
    refine ⟨fun enough => quiet (State.supplyReading_enough latest enough) rfl rfl,
      fun short first => quiet (State.supplyReading_first latest short first) rfl rfl, fun short again => ?_⟩
    have handed := State.supplyReading_again (u := s.updMonitor (MonitorState.withRestReading .supply v res)) short again
    exact ⟨fun held => ends handed (State.enterLockout_scan (.inl ⟨held, rfl⟩)),
      fun t absent entry => ends handed (State.enterLockout_scan (.inr ⟨absent, entry⟩))⟩
  · intro g ring start trip step derated raised entered
    have handing : (s.updMonitor (MonitorState.withRestReading channel v res)).handOnReading channel v =
        (s.updMonitor (MonitorState.withRestReading channel v res)).ringReading g v := by
      rcases ring with ⟨rfl, rfl⟩ | ⟨rfl, rfl⟩ | ⟨rfl, rfl⟩
      · rfl
      · rfl
      · rfl
    have scans : ((s.updMonitor (MonitorState.withRestReading channel v res)).derate g v).startScan = derated := by
      rw [State.startScan_derate]
      simp only [derated, m, ← following]
      rfl
    refine ⟨fun below => ⟨fun stays => ?_, fun clear cooled => ?_⟩, fun trips => ?_⟩
    · exact ends (handing.trans (State.ringReading_stays below stays)) scans
    · refine ends (handing.trans (State.ringReading_leaves below clear cooled)) ?_
      rw [← scans]
      rfl
    · have handed := handing.trans (State.ringReading_trips trips)
      have kept : ((s.updMonitor (MonitorState.withRestReading channel v res)).derate g v).ring = s.ring :=
        (State.derate_keeps_readings g v _).2.2.1
      have line : ((s.updMonitor (MonitorState.withRestReading channel v res)).derate g v).line = derated.line :=
        (congrArg (fun t => t.line) scans :)
      refine ⟨fun held => ends handed (State.enterLockout_scan (.inl ⟨?_, ?_⟩)),
        fun t absent entry => ends handed (State.enterLockout_scan (.inr ⟨?_, ?_⟩))⟩
      · rw [kept]
        exact held
      · rw [scans]
        rfl
      · rw [kept]
        exact absent
      · rw [scans, kept, line]
        exact entry

end Sys2Proof.Machine

/-! PROOFS. The analysis of a frame (R90 to R95) and the judgment of the balance state (R97, R98). -/

namespace Sys2Proof.Machine

theorem Table.all_iff {n : Nat} {α : Type} (t : Table n α) (p : α → Bool) :
    t.all p = true ↔ ∀ i, p (t.get i) = true := by
  have every : t.all p = !t.any fun a => !p a := by
    change t.items.all p = !t.items.any fun a => !p a
    rw [List.all_eq_not_any_not]
  rw [every, Bool.not_eq_true', ← Bool.not_eq_true, Table.any_iff, not_exists]
  exact forall_congr' fun i => by rw [Bool.not_eq_true, Bool.not_eq_false']

/-! ## The measures, the class and the gain of a zone (R90 to R92) -/

theorem Param.targetOf_rings (z : Fin 48) :
    (z.val < 12 → Param.targetOf (z.val / 12) = .targetRing0) ∧
    (12 ≤ z.val → z.val < 24 → Param.targetOf (z.val / 12) = .targetRing1) ∧
    (24 ≤ z.val → z.val < 36 → Param.targetOf (z.val / 12) = .targetRing2) ∧
    (36 ≤ z.val → Param.targetOf (z.val / 12) = .targetRing3) := by
  have quotient (k : Nat) (low : 12 * k ≤ z.val) (high : z.val < 12 * k + 12) : z.val / 12 = k := by omega
  refine ⟨fun first => ?_, fun low high => ?_, fun low high => ?_, fun last => ?_⟩
  · rw [quotient 0 (by omega) (by omega)]; rfl
  · rw [quotient 1 (by omega) (by omega)]; rfl
  · rw [quotient 2 (by omega) (by omega)]; rfl
  · rw [quotient 3 (by omega) (by omega)]; rfl

theorem Profile.unlit_iff (p : Profile) (z : Fin 48) : p.unlit z = true ↔ ∀ g, (p.influence.get z).get g = 0 := by
  rw [Profile.unlit, Table.all_iff]
  exact forall_congr' fun g => beq_iff_eq

theorem ZoneStat.mean_some {x : ZoneStat} (sampled : x.samples ≠ 0) : x.mean = some (x.sum / x.samples) :=
  if_neg sampled

theorem ZoneStat.clippedFraction_some {x : ZoneStat} (sampled : x.samples ≠ 0) :
    x.clippedFraction = some (100 * x.clipped / x.samples) :=
  if_neg sampled

/-- R91: the class of a zone that a segment lights and that has samples. -/
theorem zoneClass_lit {x : ZoneStat} (sampled : x.samples ≠ 0) (glare void : Nat) :
    zoneClass false x glare void =
      if glare ≤ 100 * x.clipped / x.samples then .glare
      else if x.sum / x.samples < void then .void else .normal := by
  rw [zoneClass, if_neg Bool.false_ne_true, if_neg sampled, ZoneStat.mean_some sampled, ZoneStat.clippedFraction_some sampled]
  simp only [measureIs, decide_eq_true_eq]

theorem residualGain_of_not_normal {cls : ZoneClass} (other : cls ≠ .normal) (target : Nat) (mean : Option Nat) :
    residualGain cls target mean = 256 := by
  cases cls with
  | normal => exact absurd rfl other
  | unlit | glare | void => rfl

theorem residualGain_normal (target m : Nat) :
    residualGain .normal target (some m) = if m = 0 then 1024 else max 128 (min 1024 (target * 256 / m)) := by
  rw [residualGain, heldGain, Nat.min_comm]

theorem zoneRecord_cls (params : ParamTable) (p : Profile) (stats : Table 48 ZoneStat) (z : Fin 48) :
    (zoneRecord params p stats z).cls =
      zoneClass (p.unlit z) (stats.get z) (params.value .glareFraction) (params.value .voidLevel) := rfl

theorem zoneRecord_gain (params : ParamTable) (p : Profile) (stats : Table 48 ZoneStat) (z : Fin 48) :
    (zoneRecord params p stats z).gain =
      residualGain (zoneRecord params p stats z).cls (zoneRecord params p stats z).target (stats.get z).mean := rfl

/-- R91: a zone without samples is not NORMAL. -/
theorem zoneRecord_samples_of_normal {params : ParamTable} {p : Profile} {stats : Table 48 ZoneStat} {z : Fin 48}
    (normal : (zoneRecord params p stats z).cls = .normal) : (stats.get z).samples ≠ 0 := by
  intro bare
  rw [zoneRecord_cls, zoneClass, if_pos bare] at normal
  split at normal <;> cases normal

/-! ## The ratio of a segment (R93) -/

/-- R93: the zones of a list that a segment lights and that are NORMAL. -/
def zonesSeen (p : Profile) (zones : Table 48 ZoneRecord) (g : Fin 12) (l : List (Fin 48)) : List (Fin 48) :=
  l.filter fun z => decide ((zones.get z).cls = .normal) && decide (0 < p.weight z g)

theorem foldl_ratio_add (p : Profile) (zones : Table 48 ZoneRecord) (g : Fin 12) (l : List (Fin 48)) (r : Ratio) :
    l.foldl (fun r z => r.add (p.weight z g) (zones.get z)) r =
      { numerator := r.numerator + ((zonesSeen p zones g l).map fun z => p.weight z g * (zones.get z).target).sum
        denominator :=
          r.denominator + ((zonesSeen p zones g l).map fun z => p.weight z g * (zones.get z).mean.getD 0).sum
        zones := r.zones + (zonesSeen p zones g l).length } := by
  induction l generalizing r with
  | nil => rfl
  | cons z l ih =>
    rw [List.foldl_cons, ih]
    by_cases counts : (zones.get z).cls = .normal ∧ 0 < p.weight z g
    · have seen : zonesSeen p zones g (z :: l) = z :: zonesSeen p zones g l :=
        List.filter_cons_of_pos (by simpa using counts)
      rw [Ratio.add, if_pos counts, seen]
      simp only [List.map_cons, List.sum_cons, List.length_cons, Nat.add_assoc, Nat.add_comm 1]
    · have unseen : zonesSeen p zones g (z :: l) = zonesSeen p zones g l :=
        List.filter_cons_of_neg (by simpa using counts)
      rw [Ratio.add, if_neg counts, unseen]

theorem ratioOf_eq (p : Profile) (zones : Table 48 ZoneRecord) (g : Fin 12) :
    ratioOf p zones g =
      { numerator := ((zonesSeen p zones g (List.finRange 48)).map fun z => p.weight z g * (zones.get z).target).sum
        denominator :=
          ((zonesSeen p zones g (List.finRange 48)).map fun z => p.weight z g * (zones.get z).mean.getD 0).sum
        zones := (zonesSeen p zones g (List.finRange 48)).length } := by
  rw [ratioOf, foldl_ratio_add]
  simp only [Nat.zero_add]

theorem Ratio.observed_iff (r : Ratio) : r.observed = true ↔ 0 < r.zones ∧ 0 < r.denominator := by
  rw [Ratio.observed, Bool.and_eq_true, decide_eq_true_eq, decide_eq_true_eq]

/-! ## The judgment of the balance state (R97, R98) -/

theorem Ratio.inBand_iff (r : Ratio) (band : Nat) :
    r.inBand band = true ↔
      100 * r.denominator ≤ 100 * r.numerator + band * r.denominator ∧
        100 * r.numerator ≤ (100 + band) * r.denominator := by
  rw [Ratio.inBand, Bool.and_eq_true, decide_eq_true_eq, decide_eq_true_eq, Nat.sub_mul, Nat.sub_le_iff_le_add]

theorem Judged.observed_iff (j : Judged) :
    j.observed = true ↔ j.segment.state = .enabled ∧ j.ratio.observed = true := by
  rw [Judged.observed, Bool.and_eq_true, decide_eq_true_eq]

theorem Judged.saturated_iff (band : Nat) (j : Judged) :
    (j.observed && j.segment.saturatedLast && decide ((100 + band) * j.ratio.denominator < 100 * j.ratio.numerator)) =
        true ↔
      (j.segment.state = .enabled ∧ j.ratio.observed = true) ∧ j.segment.saturatedLast = true ∧
        (100 + band) * j.ratio.denominator < 100 * j.ratio.numerator := by
  rw [Bool.and_eq_true, Bool.and_eq_true, decide_eq_true_eq, Judged.observed_iff, and_assoc]

theorem Judged.banded_iff (band : Nat) (j : Judged) :
    (!j.observed || j.ratio.inBand band) = true ↔
      (j.segment.state = .enabled ∧ j.ratio.observed = true →
        100 * j.ratio.denominator ≤ 100 * j.ratio.numerator + band * j.ratio.denominator ∧
          100 * j.ratio.numerator ≤ (100 + band) * j.ratio.denominator) := by
  rw [← Judged.observed_iff, ← Ratio.inBand_iff]
  cases j.observed <;> simp

theorem State.judgedSegments_get {s : State} {f : Frame} {p : Profile}
    (contents : (s.engine.bank f.bank).contents = some p) (m : ZoneMap) (g : Fin 12) :
    (s.judgedSegments f m).get g = { segment := s.ring.segments.get g, ratio := ratioOf p m.zones g } := by
  rw [State.judgedSegments, Table.get_ofFn, EngineState.tables, contents]
  rfl

/-- R97, step 1: a saturated frame. -/
theorem Standings.judge_saturated {state : BalanceState} (observed inBand : Bool) (n : Nat) :
    Standings.judge true observed inBand { state := state, settle := n } =
      { state := .saturated, settle := if state = .saturated then n else 0 } := by
  cases state <;> rfl

/-- The balance state once a frame that is not saturated has left COLD or SATURATED (R97). -/
def BalanceState.begun (state : BalanceState) : BalanceState :=
  if state = .cold ∨ state = .saturated then .settling else state

/-- R97, steps 2 and 3: a frame that is not saturated. -/
theorem Standings.judge_unsaturated (state : BalanceState) (observed inBand : Bool) (n : Nat) :
    Standings.judge false observed inBand { state := state, settle := n } =
      if observed then Standings.banded inBand { state := state.begun, settle := n }
      else { state := state.begun, settle := n } := by
  cases state <;> rfl

theorem BalanceState.begun_cases {state : BalanceState} (active : state ≠ .held) :
    state.begun = .settling ∨ state.begun = .settled := by
  cases state with
  | held => exact absurd rfl active
  | cold | settling | saturated => exact .inl rfl
  | settled => exact .inr rfl

/-- R97, step 3. -/
theorem Standings.judge_judged {state : BalanceState} (active : state ≠ .held) (inBand : Bool) (n : Nat) :
    Standings.judge false true inBand { state := state, settle := n } =
      if inBand then
        if state.begun = .settled then { state := .settled, settle := n }
        else if 3 ≤ n + 1 then { state := .settled, settle := 3 }
        else { state := .settling, settle := n + 1 }
      else { state := .settling, settle := 0 } := by
  rw [Standings.judge_unsaturated, if_pos rfl]
  rcases BalanceState.begun_cases active with begun | begun
  · rw [begun]
    cases inBand <;> rfl
  · rw [begun]
    cases inBand <;> rfl

/-! ## The statement -/

/-- R90, R91: the class of a zone record. -/
theorem zoneRecord_classes (params : ParamTable) (p : Profile) (stats : Table 48 ZoneStat) (z : Fin 48) :
    let x := stats.get z
    let r := zoneRecord params p stats z
    let unlit := ∀ g : Fin 12, (p.influence.get z).get g = 0
    let glare := params.value .glareFraction ≤ 100 * x.clipped / x.samples
    let dark := x.sum / x.samples < params.value .voidLevel
    (unlit → r.cls = .unlit) ∧ (¬ unlit → x.samples = 0 → r.cls = .void) ∧
      (¬ unlit → x.samples ≠ 0 → glare → r.cls = .glare) ∧
      (¬ unlit → x.samples ≠ 0 → ¬ glare → dark → r.cls = .void) ∧
      (¬ unlit → x.samples ≠ 0 → ¬ glare → ¬ dark → r.cls = .normal) := by
  intro x r unlit glare dark
  have lit (h : ¬ unlit) : p.unlit z = false := Bool.eq_false_iff.mpr fun dark => h ((p.unlit_iff z).mp dark)
  have cls (h : ¬ unlit) : r.cls = zoneClass false x (params.value .glareFraction) (params.value .voidLevel) := by
    rw [← lit h]
    exact zoneRecord_cls params p stats z
  refine ⟨fun h => ?_, fun h bare => ?_, fun h sampled bright => ?_, fun h sampled dull low => ?_,
    fun h sampled dull high => ?_⟩
  · rw [zoneRecord_cls, (p.unlit_iff z).mpr h]
    rfl
  · rw [cls h, zoneClass, if_neg Bool.false_ne_true, if_pos bare]
  · rw [cls h, zoneClass_lit sampled, if_pos bright]
  · rw [cls h, zoneClass_lit sampled, if_neg dull, if_pos low]
  · rw [cls h, zoneClass_lit sampled, if_neg dull, if_neg high]

/-- R92: the residual gain of a zone record. -/
theorem zoneRecord_gains (params : ParamTable) (p : Profile) (stats : Table 48 ZoneStat) (z : Fin 48) :
    let x := stats.get z
    let r := zoneRecord params p stats z
    (r.cls ≠ .normal → r.gain = 256) ∧ (r.cls = .normal → x.sum / x.samples = 0 → r.gain = 1024) ∧
      (r.cls = .normal → x.sum / x.samples ≠ 0 →
        r.gain = max 128 (min 1024 (r.target * 256 / (x.sum / x.samples)))) := by
  intro x r
  have normalGain (normal : r.cls = .normal) :
      r.gain = if x.sum / x.samples = 0 then 1024 else max 128 (min 1024 (r.target * 256 / (x.sum / x.samples))) := by
    rw [zoneRecord_gain, ZoneStat.mean_some (zoneRecord_samples_of_normal normal), normal, residualGain_normal]
  refine ⟨fun other => ?_, fun normal black => ?_, fun normal bright => ?_⟩
  · rw [zoneRecord_gain, residualGain_of_not_normal other]
  · rw [normalGain normal, if_pos black]
  · rw [normalGain normal, if_neg bright]

/-- R93: the sums of a segment and whether it is observed. -/
theorem ratioOf_sums (p : Profile) (zones : Table 48 ZoneRecord) (g : Fin 12) :
    let weight := fun z : Fin 48 => (p.influence.get z).get g
    let seen := (List.finRange 48).filter fun z => decide ((zones.get z).cls = .normal) && decide (0 < weight z)
    (ratioOf p zones g).numerator = (seen.map fun z => weight z * (zones.get z).target).sum ∧
      (ratioOf p zones g).denominator = (seen.map fun z => weight z * (zones.get z).mean.getD 0).sum ∧
      ((ratioOf p zones g).observed = true ↔ seen ≠ [] ∧ 0 < (ratioOf p zones g).denominator) := by
  intro weight seen
  have sums := ratioOf_eq p zones g
  refine ⟨congrArg Ratio.numerator sums, congrArg Ratio.denominator sums, ?_⟩
  have count : (ratioOf p zones g).zones = seen.length := congrArg Ratio.zones sums
  rw [Ratio.observed_iff, count, List.length_pos_iff]

/-- R94: the new energy request of an ENABLED segment. -/
theorem revisedEnergy_cases (r : Ratio) (limit level d : Nat) :
    let base := if level = 0 then d else level * d
    (r.observed = false → revisedEnergy r limit level d = min 1020000 base) ∧
      (r.observed = true → (100 + limit) * r.denominator < 100 * r.numerator →
        revisedEnergy r limit level d = min 1020000 (base * (100 + limit) / 100)) ∧
      (r.observed = true → 100 * r.numerator ≤ (100 + limit) * r.denominator →
        (100 + limit) * r.numerator < 100 * r.denominator →
        revisedEnergy r limit level d = min 1020000 (base * 100 / (100 + limit))) ∧
      (r.observed = true → 100 * r.numerator ≤ (100 + limit) * r.denominator →
        100 * r.denominator ≤ (100 + limit) * r.numerator →
        revisedEnergy r limit level d = min 1020000 (base * r.numerator / r.denominator)) := by
  intro base
  have request : revisedEnergy r limit level d = min 1020000 (r.times limit base) := rfl
  rw [request]
  unfold Ratio.times Ratio.above Ratio.below
  refine ⟨fun unseen => ?_, fun seen above => ?_, fun seen within below => ?_, fun seen within high => ?_⟩
  · rw [unseen, if_neg Bool.false_ne_true]
  · rw [if_pos seen, if_pos (decide_eq_true above)]
  · rw [if_pos seen, if_neg (by simpa using within), if_pos (decide_eq_true below)]
  · rw [if_pos seen, if_neg (by simpa using within), if_neg (by simpa using high)]

/-- R97: which segments are judged, which frame is saturated and which is in band. -/
theorem State.judgedSegments_tests {s : State} {f : Frame} {p : Profile}
    (contents : (s.engine.bank f.bank).contents = some p) (band : Nat) (m : ZoneMap) :
    let judged := s.judgedSegments f m
    let ratio := fun g : Fin 12 => ratioOf p m.zones g
    let seen := fun g : Fin 12 => (s.ring.segments.get g).state = .enabled ∧ (ratio g).observed = true
    (judged.any Judged.observed = true ↔ ∃ g, seen g) ∧
    (saturatedFrame band judged = true ↔ ∃ g, seen g ∧ (s.ring.segments.get g).saturatedLast = true ∧
      (100 + band) * (ratio g).denominator < 100 * (ratio g).numerator) ∧
    (inBandFrame band judged = true ↔ ∀ g, seen g →
      100 * (ratio g).denominator ≤ 100 * (ratio g).numerator + band * (ratio g).denominator ∧
      100 * (ratio g).numerator ≤ (100 + band) * (ratio g).denominator) := by
  intro judged ratio seen
  have entry (g : Fin 12) : judged.get g = { segment := s.ring.segments.get g, ratio := ratio g } :=
    State.judgedSegments_get contents m g
  refine ⟨?_, ?_, ?_⟩
  · rw [Table.any_iff]
    exact exists_congr fun g => by rw [entry, Judged.observed_iff]
  · rw [saturatedFrame, Table.any_iff]
    exact exists_congr fun g => by rw [entry, Judged.saturated_iff]
  · rw [inBandFrame, Table.all_iff]
    exact forall_congr' fun g => by rw [entry, Judged.banded_iff]

/-- R97, R98: the judgment by cases. -/
theorem Standings.judge_cases (saturated observed inBand : Bool) {state : BalanceState} (n : Nat)
    (active : state ≠ .held) :
    let j := Standings.judge saturated observed inBand { state := state, settle := n }
    let first := if state = .cold ∨ state = .saturated then BalanceState.settling else state
    (saturated = true → state ≠ .saturated → j = { state := .saturated, settle := 0 }) ∧
    (saturated = true → state = .saturated → j = { state := .saturated, settle := n }) ∧
    (saturated = false → observed = false → j = { state := first, settle := n }) ∧
    (saturated = false → observed = true → inBand = false → j = { state := .settling, settle := 0 }) ∧
    (saturated = false → observed = true → inBand = true →
      (first = .settling → n + 1 < 3 → j = { state := .settling, settle := n + 1 }) ∧
      (first = .settling → 3 ≤ n + 1 → j = { state := .settled, settle := 3 }) ∧
      (first = .settled → j = { state := .settled, settle := n })) := by
  intro j first
  refine ⟨?_, ?_, ?_, ?_, ?_⟩
  · rintro rfl other
    exact (Standings.judge_saturated observed inBand n).trans (by rw [if_neg other])
  · rintro rfl same
    exact (Standings.judge_saturated observed inBand n).trans (by rw [if_pos same])
  · rintro rfl rfl
    exact Standings.judge_unsaturated state false inBand n
  · rintro rfl rfl rfl
    exact Standings.judge_judged active false n
  · rintro rfl rfl rfl
    have judged := Standings.judge_judged active true n
    rw [if_pos rfl] at judged
    refine ⟨fun (begun : state.begun = .settling) few => ?_, fun (begun : state.begun = .settling) enough => ?_,
      fun (begun : state.begun = .settled) => ?_⟩
    · exact judged.trans (by rw [begun, if_neg nofun, if_neg (by omega)])
    · exact judged.trans (by rw [begun, if_neg nofun, if_pos enough])
    · exact judged.trans (if_pos begun)

/-- Settles O42. -/
theorem analysisFollowsTheFormulas : Obligations.AnalysisFollowsTheFormulas := by
  refine ⟨⟨fun params p stats z => ?_, ratioOf_sums, revisedEnergy_cases⟩, ?_, fun limit g r => ⟨?_, ?_⟩,
    fun band f p m s contents => State.judgedSegments_tests contents band m,
    fun saturated observed inBand state n active => Standings.judge_cases saturated observed inBand n active⟩
  · have target (ring : Param) (h : Param.targetOf (z.val / 12) = ring) :
        (zoneRecord params p stats z).target = params.value ring := congrArg params.value h
    obtain ⟨ring0, ring1, ring2, ring3⟩ := Param.targetOf_rings z
    obtain ⟨unlit, void, glare, dark, normal⟩ := zoneRecord_classes params p stats z
    exact ⟨rfl, rfl, rfl, fun h => target _ (ring0 h), fun h k => target _ (ring1 h k),
      fun h k => target _ (ring2 h k), fun h => target _ (ring3 h), unlit, void, glare, dark, normal,
      zoneRecord_gains params p stats z⟩
  · intro f p stats id s contents profile gathered
    refine ⟨rfl, rfl, ?_, fun z => ?_⟩
    · rw [State.zoneMapOf, profile]
      rfl
    · rw [State.zoneMapOf, Table.get_ofFn, EngineState.tables, contents, Frame.zoneStats, gathered]
      rfl
  · intro enabled
    rw [verdictOf, enabled]
    rfl
  · intro off
    unfold verdictOf
    split
    case h_1 enabled => exact absurd enabled off
    case h_2 | h_3 => rfl

end Sys2Proof.Machine

/-! PROOFS. The sensor port and the readout (R111 to R113, R115). -/

namespace Sys2Proof.Machine

/-! ## A line gathered by zone (R112, R113) -/

/-- R113: what a zone has gathered once these values came to it. -/
def ZoneStat.with (z : ZoneStat) (values : List Nat) : ZoneStat where
  samples := z.samples + values.length
  sum := z.sum + values.sum
  clipped := z.clipped + values.countP fun v => decide (1020 ≤ v)

theorem ZoneStat.gather_eq (z : ZoneStat) (v : Nat) : z.gather v = z.with [v] := by
  unfold ZoneStat.with ZoneStat.gather
  rw [List.countP_singleton]
  simp only [List.length_singleton, List.sum_singleton, decide_eq_true_eq, ZoneStat.mk.injEq, true_and]
  split <;> rfl

theorem ZoneStat.with_with (z : ZoneStat) (values more : List Nat) :
    (z.with values).with more = z.with (values ++ more) := by
  unfold ZoneStat.with
  rw [List.length_append, List.sum_append, List.countP_append, Nat.add_assoc, Nat.add_assoc, Nat.add_assoc]

/-- The columns from `x0` on, `length` many, counted from `x0`, whose sample on line `y` is green and in zone `z`. -/
def Geometry.gathered (g : Geometry) (y : Nat) (z : Fin 48) (x0 length : Nat) : List Nat :=
  (List.range length).filter fun k =>
    decide ((x0 + k) % 2 = y % 2) && decide (g.zoneOfSample (x0 + k) y = some z)

theorem Geometry.gathered_succ (g : Geometry) (y : Nat) (z : Fin 48) (x0 length : Nat) :
    g.gathered y z x0 (length + 1) =
      (if isGreen x0 y ∧ g.zoneOfSample x0 y = some z then [0] else []) ++
        (g.gathered y z (x0 + 1) length).map Nat.succ := by
  unfold Geometry.gathered
  rw [List.range_succ_eq_map, List.filter_cons, List.filter_map]
  have shifted : ((fun k => decide ((x0 + k) % 2 = y % 2) && decide (g.zoneOfSample (x0 + k) y = some z)) ∘ Nat.succ) =
      fun k => decide ((x0 + 1 + k) % 2 = y % 2) && decide (g.zoneOfSample (x0 + 1 + k) y = some z) :=
    funext fun k => by rw [Function.comp_apply, Nat.succ_eq_one_add, Nat.add_assoc]
  rw [shifted, Nat.add_zero, isGreen]
  by_cases counts : x0 % 2 = y % 2 ∧ g.zoneOfSample x0 y = some z
  · simp [counts]
  · simp [counts]

theorem gatherSample_get (g : Geometry) (y : Nat) (stats : Table 48 ZoneStat) (x : Nat) (v : BitVec 10) (z : Fin 48) :
    (gatherSample g y stats x v).get z =
      (stats.get z).with (if isGreen x y ∧ g.zoneOfSample x y = some z then [v.toNat] else []) := by
  have nothing : (stats.get z).with [] = stats.get z := rfl
  unfold gatherSample
  by_cases green : isGreen x y = true
  · simp only [green, if_true, true_and]
    cases zone : g.zoneOfSample x y with
    | none => rfl
    | some w =>
      by_cases same : w = z
      · subst same
        rw [if_pos rfl, Table.get_modify, if_pos rfl, ZoneStat.gather_eq]
      · rw [if_neg (by simpa using same), Table.get_modify, if_neg same, nothing]
  · simp only [green, false_and, if_false, Bool.false_eq_true, nothing]

/-- R113: a line adds to each zone the green samples that lie in it. -/
theorem gatherLine_get (g : Geometry) (y x0 : Nat) (line : List (BitVec 10)) (stats : Table 48 ZoneStat) (z : Fin 48) :
    (gatherLine g y x0 line stats).get z =
      (stats.get z).with ((g.gathered y z x0 line.length).map fun k => (line.getD k 0).toNat) := by
  induction line generalizing x0 stats with
  | nil => rfl
  | cons v rest ih =>
    rw [gatherLine, ih, gatherSample_get, List.length_cons, Geometry.gathered_succ, List.map_append, List.map_map]
    have later : ((fun k => ((v :: rest).getD k 0).toNat) ∘ Nat.succ) = fun k => (rest.getD k 0).toNat := rfl
    rw [later]
    rw [ZoneStat.with_with]
    split <;> rfl

/-- R111, R112: samples beyond column 1,279 are not gathered. -/
theorem gathered_values_take (g : Geometry) (y : Nat) (z : Fin 48) (samples : List (BitVec 10)) :
    (g.gathered y z 0 (samples.take 1280).length).map (fun k => ((samples.take 1280).getD k 0).toNat) =
      (g.gathered y z 0 (min samples.length 1280)).map fun k => (samples.getD k 0).toNat := by
  rw [List.length_take, Nat.min_comm]
  refine List.map_congr_left fun k member => ?_
  have inside := List.mem_range.mp (List.mem_filter.mp member).1
  rw [List.getD_eq_getElem?_getD, List.getD_eq_getElem?_getD, List.getElem?_take_of_lt (by omega)]

/-! ## The sensor frame error (R115) -/

theorem State.readingSlot_alone {s : State} {i : Fin 6} {f : Frame} (filled : s.frames.slots.get i = some f)
    (reads : f.state = .reading) (alone : s.aloneOnPath i) : s.readingSlot = some i := by
  refine State.slotIn_alone filled (by rw [reads]; rfl) (fun x reading => ?_) alone
  cases of_decide_eq_true reading
  rfl

theorem State.readingSlot_none {s : State}
    (noSlot : ∀ (i : Fin 6) (f : Frame), s.frames.slots.get i = some f → f.state ≠ .reading) : s.readingSlot = none :=
  State.slotIn_none fun i f filled => decide_eq_false (noSlot i f filled)

/-- R115: SENSOR_FRAME_ERROR is raised, and the readout is over. -/
def State.readoutFailed (s : State) : State :=
  { s with
    line := s.line.raise .sensorFrameError
    frames := { s.frames with port := .idle, readoutLimit := none } }

/-- R115, R57: the slot is freed, its run counts it skipped, and the idle sensor path lets a run close, a bank be swapped
in and the pending trigger be served. -/
theorem State.sensorError_eq {s t : State} {i : Fin 6} {f : Frame} (filled : s.frames.slots.get i = some f)
    (reads : f.state = .reading) (alone : s.aloneOnPath i)
    (served : PendingServed (State.freed i f s.readoutFailed).pathSettled t) : s.sensorError i = t := by
  have failed : (s.readoutFailed.discard i).updRun (RunState.countSkipped f.run) = s.readoutFailed.freed i f :=
    State.discard_freed filled (by rw [reads]; rfl)
  have settled := State.close_swap (State.pathIdle_freed (i := i) (f := f) (s := s.readoutFailed) alone)
  rw [State.sensorError, State.frameAt, filled]
  change ((s.readoutFailed.discard i).updRun (RunState.countSkipped f.run)).closeIfIdle.swapIfDue.servePending = t
  rw [failed, settled, State.servePending_eq served]

/-- R111: a line beyond the 1,024th is counted only. -/
theorem State.lineReceived_late {s : State} {i : Fin 6} {n : Nat} {flagged : Bool} (slot : s.readingSlot = some i)
    (port : s.frames.port = .receiving n flagged) (late : 1024 ≤ n) (samples : List (BitVec 10)) :
    s.lineReceived samples = { s with frames := { s.frames with
      port := .receiving (n + 1) (flagged || decide (samples.length ≠ 1280)) } } := by
  rw [State.lineReceived, slot, port]
  exact if_neg (by omega)

/-- R111, R113: a line is counted, stored in the slot and gathered. -/
theorem State.lineReceived_stored {s : State} {i : Fin 6} {f : Frame} {n : Nat} {flagged : Bool} {p : Profile}
    {old : Table 48 ZoneStat} (slot : s.readingSlot = some i) (port : s.frames.port = .receiving n flagged)
    (early : n < 1024) (filled : s.frames.slots.get i = some f)
    (contents : (s.engine.bank f.bank).contents = some p) (gathered : f.stats = some old)
    (samples : List (BitVec 10)) :
    s.lineReceived samples = { s with frames := { s.frames with
      port := .receiving (n + 1) (flagged || decide (samples.length ≠ 1280))
      slots := s.frames.slots.set i (some { f with
        raw := f.raw ++ [samples.take 1280]
        stats := some (gatherLine p.geometry n 0 (samples.take 1280) old) }) } } := by
  have stored : Frame.storeLine (s.engine.tables f.bank).geometry n (samples.take 1280) f = { f with
        raw := f.raw ++ [samples.take 1280]
        stats := some (gatherLine p.geometry n 0 (samples.take 1280) old) } := by
    rw [Frame.storeLine, gathered, EngineState.tables, contents]
    rfl
  rw [State.lineReceived, slot, port]
  dsimp only
  rw [if_pos early, State.modifyFrame_filled (f := f) (by exact filled), stored]
  rfl

/-- Settles O40. -/
theorem sensorPortFollowsTheReadout : Obligations.SensorPortFollowsTheReadout := by
  intro s h
  have starts : exec .sensorFrameStart s = .next s.frameStarted.ended := exec_ordinary h nofun nofun
  have line (samples : List (BitVec 10)) : exec (.sensorLine samples) s = .next (s.lineReceived samples).ended :=
    exec_ordinary h nofun nofun
  have ends : exec .sensorFrameEnd s = .next s.frameEnded.ended := exec_ordinary h nofun nofun
  have expires : exec .readoutLimitExpiry s = .next s.readoutExpired.ended := exec_ordinary h nofun nofun
  have quiet : s.ended = s := State.ended_of_no_notice h.2
  refine ⟨fun unread samples => ?_, fun i f filled reads alone => ?_⟩
  · have noSlot : s.readingSlot = none := State.readingSlot_none unread
    rw [starts, line, ends, expires, State.frameStarted, State.lineReceived, State.frameEnded, State.readoutExpired,
      noSlot]
    dsimp only
    rw [quiet]
    exact ⟨rfl, rfl, rfl, rfl⟩
  have slot : s.readingSlot = some i := State.readingSlot_alone filled reads alone
  intro u failed
  have fails {c : Instr} {v : State} (event : exec c s = .next v.ended) (errs : v = s.sensorError i) : failed c := by
    intro t served
    rw [event, errs, State.sensorError_eq filled reads alone served]
  refine ⟨fun waiting => ⟨?_, fun samples => ?_, ?_⟩, fun n limit => ?_,
    fun n flagged receiving => ⟨?_, fun odd => ?_, fun samples => ⟨fun late => ?_, fun p old early contents stats => ?_⟩⟩⟩
  · rw [starts, State.frameStarted, slot, waiting]
    exact congrArg Host.Outcome.next (State.ended_of_no_notice h.2)
  · rw [line, State.lineReceived, slot, waiting]
    exact congrArg Host.Outcome.next quiet
  · exact fails ends (by rw [State.frameEnded, slot, waiting])
  · exact fails expires (by rw [State.readoutExpired, slot, limit])
  · exact fails starts (by rw [State.frameStarted, slot, receiving])
  · refine fails ends ?_
    rw [State.frameEnded, slot, receiving]
    exact if_neg (by rintro ⟨rfl, rfl⟩; simp at odd)
  · rw [line, State.lineReceived_late slot receiving late]
    exact congrArg Host.Outcome.next (State.ended_of_no_notice h.2)
  · refine ⟨gatherLine p.geometry n 0 (samples.take 1280) old, ?_, fun z => ?_⟩
    · rw [line, State.lineReceived_stored slot receiving early filled contents stats]
      exact congrArg Host.Outcome.next (State.ended_of_no_notice h.2)
    · intro gathered values
      have columns : p.geometry.gathered n z 0 (min samples.length 1280) = gathered := by
        unfold Geometry.gathered
        simp only [Nat.zero_add]
        rfl
      have came := gatherLine_get p.geometry n 0 (samples.take 1280) old z
      rw [gathered_values_take, columns] at came
      rw [came]
      exact ⟨by rw [ZoneStat.with, List.length_map], rfl, rfl⟩

end Sys2Proof.Machine

/-! PROOFS. The end of a correct readout (R89, R114, R116, R128). -/

namespace Sys2Proof.Machine

/-! ## The capture is counted (R6, R14 to R16) -/

/-- R6, R14, R16, R126: the capture of a run is counted, which may end and close the run, and with the sensor path idle
a LOADED bank is swapped in. -/
theorem State.countCapture_swap {s : State} (idle : s.pathIdle) (f : Frame) :
    (s.countCapture f.run).swapIfDue = (s.captureCounted f).pathSettled := by
  rw [State.countCapture, State.captureCounted, State.openRun]
  cases run : s.run.current with
  | none =>
    have uncounted : s.updRun (RunState.countCaptured f.run) = s := by
      unfold State.updRun RunState.countCaptured
      rw [run]
      exact congrArg (fun c => { s with run := { s.run with current := c } }) run.symm
    rw [uncounted, if_neg (fun h => by rw [h.2] at h; cases h.1)]
    exact State.close_swap idle
  | some c =>
    dsimp only [Option.map_some]
    by_cases own : f.run = some c.number
    · have counted : s.updRun (RunState.countCaptured f.run) =
          { s with run := { s.run with current := some { c with captured := c.captured + 1 } } } := by
        unfold State.updRun RunState.countCaptured
        rw [run, own, Option.map_some, if_pos rfl]
      rw [counted, if_pos ⟨by rw [own]; rfl, own⟩, if_pos own, State.endRunAtCount]
      dsimp only
      by_cases reached : c.requested ≠ 0 ∧ c.requested ≤ (c.captured + 1).toNat
      · rw [if_pos reached]
        by_cases running : s.run.part = .running
        · rw [if_pos ⟨running, reached⟩, State.endRun_idle (by exact running) rfl (by exact idle)]
          exact State.close_swap (s := s.closed .countReached .ready { c with captured := c.captured + 1 }) idle
        · rw [if_neg (fun h => running h.1), State.endRun_not (by exact running)]
          exact State.close_swap (by exact idle)
      · rw [if_neg reached, if_neg (fun h => reached h.2)]
        exact State.close_swap (by exact idle)
    · have uncounted : s.updRun (RunState.countCaptured f.run) = s := by
        unfold State.updRun RunState.countCaptured
        rw [run, Option.map_some, if_neg own]
        exact congrArg (fun c => { s with run := { s.run with current := c } }) run.symm
      rw [uncounted, if_neg (fun h => own h.2), if_neg own]
      exact State.close_swap idle

/-! ## The engine takes the frame, or it joins the queue (R116, R128) -/

/-- R116, R128: what the correction engine and its queue make of a frame that joins them. -/
theorem State.joinQueue_eq {s : State} {i : Fin 6} {f : Frame} (filled : s.frames.slots.get i = some f)
    (free : s.engine.hand = none → s.frames.queue = [] ∧ s.run.part ≠ .dormant) :
    s.joinQueue i = { s with
      frames := { s.frames with
        slots := s.frames.slots.set i (some { f with
          state := if s.engine.hand = none then .correcting else .waiting })
        queue := if s.engine.hand = none then [] else s.frames.queue ++ [i] }
      engine := { s.engine with hand := if s.engine.hand = none then some (i, 0) else s.engine.hand } } := by
  rw [State.joinQueue, State.modifyFrame_filled filled]
  cases hand : s.engine.hand with
  | none =>
    obtain ⟨empty, awake⟩ := free hand
    simp only [State.updFrames, State.engineTake, hand, empty, List.nil_append, if_neg awake, if_true]
    rw [State.modifyFrame_filled (by exact (Table.get_set _ i i _).trans (if_pos rfl)), Table.set_set]
    rfl
  | some busy =>
    simp only [State.updFrames, State.engineTake, hand, reduceCtorEq, if_false]
    rw [← hand]

/-! ## The three cases of the analysis (R89) -/

section Cases

variable {s : State} {i : Fin 6} {f : Frame}

theorem State.analyse_cut (filled : s.frames.slots.get i = some f) (cut : f.flags.cut = true) :
    s.analyse i = { s with
      frames := { s.frames with slots := s.frames.slots.set i (some { f with gains := some (Table.fill 48 256) }) }
      balance := { s.balance with
        stale := if s.balance.stale = some f.number then none else s.balance.stale } } := by
  rw [State.analyse, State.frameAt, filled]
  dsimp only
  rw [if_pos cut, State.writeGains, State.modifyFrame_filled filled]
  rfl

/-- R89, R95: the balance unit with the map and the verdicts of a frame that is not CUT. -/
def State.mapped (p : Profile) (f : Frame) (s : State) : BalanceUnit :=
  { s.balance with
    zoneMap := some (s.zoneMapOf f)
    verdicts := some (Table.ofFn fun g =>
      verdictOf (s.line.params.value .stepLimit) (s.ring.segments.get g) (ratioOf p (s.zoneMapOf f).zones g)) }

/-- R89, R92, R95. -/
theorem State.formMap_eq {p : Profile} (filled : s.frames.slots.get i = some f)
    (contents : (s.engine.bank f.bank).contents = some p) :
    s.formMap i f = { s with
      frames := { s.frames with
        slots := s.frames.slots.set i (some { f with gains := some ((s.zoneMapOf f).zones.map ZoneRecord.gain) }) }
      balance := s.mapped p f } := by
  have verdicts : (s.judgedSegments f (s.zoneMapOf f)).map
        (fun j => verdictOf (s.param .stepLimit) j.segment j.ratio) =
      Table.ofFn fun g =>
        verdictOf (s.line.params.value .stepLimit) (s.ring.segments.get g) (ratioOf p (s.zoneMapOf f).zones g) :=
    Table.eq_of_get fun g => by
      rw [Table.get_map, Table.get_ofFn, State.judgedSegments_get contents]
      rfl
  rw [State.formMap, verdicts, State.writeGains, State.modifyFrame_filled filled]
  rfl

theorem State.analyse_kept {p : Profile} (filled : s.frames.slots.get i = some f)
    (contents : (s.engine.bank f.bank).contents = some p) (whole : f.flags.cut = false)
    (kept : s.balance.stale = some f.number ∨ s.balance.state = .held) :
    s.analyse i = { s with
      frames := { s.frames with
        slots := s.frames.slots.set i (some { f with gains := some ((s.zoneMapOf f).zones.map ZoneRecord.gain) }) }
      balance := { s.mapped p f with
        stale := if s.balance.stale = some f.number then none else s.balance.stale } } := by
  rw [State.analyse, State.frameAt, filled]
  dsimp only
  rw [if_neg (ne_true_of_eq_false whole), if_pos kept, State.formMap_eq filled contents]
  rfl

/-- R94: the energies after a revising analysis. -/
theorem State.revisedEnergies_eq {p : Profile} {d : StrobeData} (contents : (s.engine.bank f.bank).contents = some p)
    (strobe : f.strobe = some d) (m : ZoneMap) (limit : Nat) (old : Table 12 Nat) :
    revisedEnergies limit f.strobeData (s.judgedSegments f m) old = Table.ofFn fun g =>
      if (s.ring.segments.get g).state = .enabled then
        revisedEnergy (ratioOf p m.zones g) limit (d.levels.get g) d.duration
      else old.get g := by
  have data : f.strobeData = d := by
    rw [Frame.strobeData, strobe]
    rfl
  refine Table.eq_of_get fun g => ?_
  rw [revisedEnergies, Table.get_ofFn, Table.get_ofFn, State.judgedSegments_get contents, data]
  dsimp only
  split
  case h_1 enabled => rw [if_pos enabled]
  case h_2 off => rw [if_neg (by rw [off]; nofun)]
  case h_3 off => rw [if_neg (by rw [off]; nofun)]

/-- R97: the balance state after the judgment of a frame. -/
def State.judgedTo (f : Frame) (s : State) : Standings :=
  Standings.judge (saturatedFrame (s.line.params.value .settleBand) (s.judgedSegments f (s.zoneMapOf f)))
    ((s.judgedSegments f (s.zoneMapOf f)).any Judged.observed)
    (inBandFrame (s.line.params.value .settleBand) (s.judgedSegments f (s.zoneMapOf f)))
    { state := s.balance.state, settle := s.balance.settle }

/-- R97, R98. -/
theorem State.judge_eq (judged : Table 12 Judged) (s : State) :
    let after := Standings.judge (saturatedFrame (s.line.params.value .settleBand) judged)
      (judged.any Judged.observed) (inBandFrame (s.line.params.value .settleBand) judged)
      { state := s.balance.state, settle := s.balance.settle }
    s.judge judged = { s with
      balance := { s.balance with state := after.state, settle := after.settle }
      line := if after.state = .saturated ∧ s.balance.state ≠ .saturated then s.line.raise .balanceSaturated
        else s.line } := by
  intro after
  by_cases enters : after.state = .saturated ∧ s.balance.state ≠ .saturated
  · rw [if_pos enters]
    exact if_pos enters
  · rw [if_neg enters]
    exact if_neg enters

theorem State.analyse_revises {p : Profile} {d : StrobeData} (filled : s.frames.slots.get i = some f)
    (contents : (s.engine.bank f.bank).contents = some p) (strobe : f.strobe = some d) (whole : f.flags.cut = false)
    (fresh : s.balance.stale ≠ some f.number) (free : s.balance.state ≠ .held) :
    s.analyse i = { s with
      frames := { s.frames with
        slots := s.frames.slots.set i (some { f with gains := some ((s.zoneMapOf f).zones.map ZoneRecord.gain) }) }
      balance := { s.mapped p f with
        energies := Table.ofFn fun g =>
          if (s.ring.segments.get g).state = .enabled then
            revisedEnergy (ratioOf p (s.zoneMapOf f).zones g) (s.line.params.value .stepLimit) (d.levels.get g)
              d.duration
          else s.balance.energies.get g
        state := (s.judgedTo f).state
        settle := (s.judgedTo f).settle }
      line := if (s.judgedTo f).state = .saturated ∧ s.balance.state ≠ .saturated then
          s.line.raise .balanceSaturated
        else s.line } := by
  have energies := State.revisedEnergies_eq contents strobe (s.zoneMapOf f) (s.line.params.value .stepLimit)
    s.balance.energies
  rw [State.analyse, State.frameAt, filled]
  dsimp only
  rw [if_neg (ne_true_of_eq_false whole), if_neg (fun h => h.elim fresh free), State.formMap_eq filled contents,
    ← energies, State.revise]
  exact State.judge_eq _ _

end Cases

/-! ## The statement -/

/-- R114: the readout is over. -/
def State.portIdle (s : State) : State :=
  { s with frames := { s.frames with port := .idle, readoutLimit := none } }

/-- R89, R114, R116, R128: the part once the frame of slot `i` was analysed, with these gains, balance unit and line, and
was taken by the engine or joined its queue. -/
def State.readOut (i : Fin 6) (f : Frame) (gains : Table 48 Nat) (balance : BalanceUnit) (line : LineState) (s : State) :
    State :=
  { s with
    frames := { s.frames with
      slots := s.frames.slots.set i (some { f with
        state := if s.engine.hand = none then .correcting else .waiting
        gains := some gains })
      queue := if s.engine.hand = none then [] else s.frames.queue ++ [i]
      port := .idle
      readoutLimit := none }
    engine := { s.engine with hand := if s.engine.hand = none then some (i, 0) else s.engine.hand }
    balance := balance
    line := line }

theorem State.pathIdle_readOut {i : Fin 6} {f : Frame} {s : State} (alone : s.aloneOnPath i) (gains : Table 48 Nat)
    (balance : BalanceUnit) (line : LineState) : (s.readOut i f gains balance line).pathIdle := by
  intro j g filled
  simp only [State.readOut, Table.get_set] at filled
  split at filled
  case isTrue same =>
    cases filled
    dsimp only
    split <;> rfl
  case isFalse other => exact alone j g (Ne.symm other) filled

/-- R114, R116, R128, R16, R126, R10: what follows the analysis of a correct readout. -/
theorem State.readoutComplete_eq {s t : State} {i : Fin 6} {f : Frame} {gains : Table 48 Nat} {balance : BalanceUnit}
    {line : LineState} (filled : s.frames.slots.get i = some f) (alone : s.aloneOnPath i)
    (free : s.engine.hand = none → s.frames.queue = [] ∧ s.run.part ≠ .dormant)
    (analysed : s.portIdle.analyse i = { s.portIdle with
      frames := { s.portIdle.frames with slots := s.frames.slots.set i (some { f with gains := some gains }) }
      balance := balance
      line := line })
    (served : PendingServed ((s.readOut i f gains balance line).captureCounted f).pathSettled t) :
    s.readoutComplete i = t := by
  have joined : (s.portIdle.analyse i).joinQueue i = s.readOut i f gains balance line := by
    rw [analysed, State.joinQueue_eq (by exact (Table.get_set _ i i _).trans (if_pos rfl)) (by exact free)]
    unfold State.readOut
    dsimp only
    rw [Table.set_set]
    rfl
  rw [State.readoutComplete, State.frameAt, filled]
  change (((s.portIdle.analyse i).joinQueue i).countCapture f.run).swapIfDue.servePending = t
  rw [joined, State.countCapture_swap (State.pathIdle_readOut alone gains balance line), State.servePending_eq served]

/-- Settles O41. -/
theorem correctReadoutIsAnalysedAndTaken : Obligations.CorrectReadoutIsAnalysedAndTaken := by
  intro i f p d s h filled reads alone port free contents strobe
  have ends : exec .sensorFrameEnd s = .next s.frameEnded.ended := exec_ordinary h nofun nofun
  have correct : s.frameEnded = s.readoutComplete i := by
    rw [State.frameEnded, State.readingSlot_alone filled reads alone, port]
    exact if_pos ⟨rfl, rfl⟩
  rw [correct] at ends
  have answers {gains : Table 48 Nat} {balance : BalanceUnit} {line : LineState}
      (analysed : s.portIdle.analyse i = { s.portIdle with
        frames := { s.portIdle.frames with slots := s.frames.slots.set i (some { f with gains := some gains }) }
        balance := balance
        line := line }) (t : State)
      (served : PendingServed ((s.readOut i f gains balance line).captureCounted f).pathSettled t) :
      exec .sensorFrameEnd s = .next t.ended := by
    rw [ends, State.readoutComplete_eq filled alone free analysed served]
  exact ⟨fun cut => answers (State.analyse_cut filled cut),
    fun whole kept => answers (State.analyse_kept filled contents whole kept),
    fun whole fresh active => ⟨(s.judgedTo f).state, (s.judgedTo f).settle,
      answers (State.analyse_revises filled contents strobe whole fresh active), rfl⟩⟩

end Sys2Proof.Machine

/-! PROOFS. The completion of a tile and the pixels of a tile (R119, R128 to R132). -/

namespace Sys2Proof.Machine

/-! ## The engine goes on to the head of the queue (R128) -/

theorem State.engineTake_head {s : State} {j : Fin 6} {rest : List (Fin 6)} {h : Frame} (free : s.engine.hand = none)
    (awake : s.run.part ≠ .dormant) (head : s.frames.queue = j :: rest) (filled : s.frames.slots.get j = some h) :
    s.engineTake = { s with
      frames := { s.frames with
        slots := s.frames.slots.set j (some { h with state := .correcting })
        queue := rest }
      engine := { s.engine with hand := some (j, 0) } } := by
  rw [State.engineTake, free, head]
  dsimp only
  rw [if_neg awake, State.modifyFrame_filled (by exact filled)]
  rfl

/-- R128: the engine, freed in a part that is not DORMANT, takes the head of the correction queue. -/
theorem State.freeEngine_cases {s : State} (awake : s.run.part ≠ .dormant) :
    (s.frames.queue = [] → s.freeEngine = { s with engine := { s.engine with hand := none } }) ∧
    (∀ (j : Fin 6) (rest : List (Fin 6)) (h : Frame), s.frames.queue = j :: rest → s.frames.slots.get j = some h →
      s.freeEngine = { s with
        frames := { s.frames with
          slots := s.frames.slots.set j (some { h with state := .correcting })
          queue := rest }
        engine := { s.engine with hand := some (j, 0) } }) := by
  refine ⟨fun empty => ?_, fun j rest h head filled => ?_⟩
  · simp only [State.freeEngine, State.updEngine, State.engineTake, empty]
  · exact State.engineTake_head rfl awake head filled

/-! ## The completion of a tile (R132) -/

section Completion

variable {s : State} {i : Fin 6} {n : Nat} {f : Frame} {p : Profile}

theorem State.tileCompleted_eq (hand : s.engine.hand = some (i, n)) (filled : s.frames.slots.get i = some f)
    (contents : (s.engine.bank f.bank).contents = some p) :
    s.tileCompleted = (s.putFrame i (some (f.withTile p n))).afterTile i n (f.withTile p n) := by
  have tables : s.engine.tables f.bank = p := by rw [EngineState.tables, contents]; rfl
  rw [State.tileCompleted, hand]
  dsimp only
  rw [State.frameAt, filled]
  dsimp only
  rw [tables]

/-- R132, step 3: an abandoned frame is freed. -/
theorem State.discard_withTile (state : f.state = .correcting) :
    (s.putFrame i (some (f.withTile p n))).discard i = { s with
      frames := { s.frames with slots := s.frames.slots.set i none }
      engine := s.engine.released f.bank } := by
  have filled : (s.putFrame i (some (f.withTile p n))).frames.slots.get i = some (f.withTile p n) :=
    (Table.get_set _ i i _).trans (if_pos rfl)
  have cleared : (s.frames.slots.set i (some (f.withTile p n))).set i none = s.frames.slots.set i none :=
    Table.set_set _ _ _ _
  rw [State.discard_referencing filled (by change f.state.referencing = true; rw [state]; rfl), ← cleared]
  rfl

/-- R132, step 4, R119: a frame with its last tile is READY and announced, and its reference to the bank ends. -/
theorem State.finishFrame_eq :
    (s.putFrame i (some (f.withTile p n))).finishFrame i (f.withTile p n) = State.freeEngine { s with
      frames := { s.frames with slots := s.frames.slots.set i (some { f.withTile p n with state := .ready }) }
      engine := s.engine.released f.bank
      line := { s.line with staged := s.line.staged ++ [.frameReady ((f.withTile p n).notice i)] } } := by
  have rewritten : (s.frames.slots.set i (some (f.withTile p n))).set i (some { f.withTile p n with state := .ready }) =
      s.frames.slots.set i (some { f.withTile p n with state := .ready }) := Table.set_set _ _ _ _
  rw [← rewritten, ← EngineState.endReference_eq]
  rfl

end Completion

/-- Settles O44. -/
theorem tileCompletionGoesOnOrEndsTheFrame : Obligations.TileCompletionGoesOnOrEndsTheFrame := by
  intro i n f p s h hand filled contents awake g freedEngine announced next
  have event : exec .tileCompletion s = .next s.tileCompleted.ended := exec_ordinary h nofun nofun
  rw [State.tileCompleted_eq hand filled contents, State.afterTile] at event
  have follows (o : Option Frame) (line : LineState) :
      next o line (State.freeEngine { s with
        frames := { s.frames with slots := s.frames.slots.set i o }
        engine := s.engine.released f.bank
        line := line }) := by
    obtain ⟨ends, goesOn⟩ := State.freeEngine_cases (s := { s with
        frames := { s.frames with slots := s.frames.slots.set i o }
        engine := s.engine.released f.bank
        line := line }) awake
    exact ⟨ends, fun j rest k head other held =>
      goesOn j rest k head ((Table.get_set _ _ _ _).trans ((if_neg (Ne.symm other)).trans held))⟩
  refine ⟨fun keeps more => ?_, fun abandons state => ?_, fun keeps last => ?_⟩
  · rw [if_neg (by change ¬ f.abandon = true; rw [keeps]; nofun), if_neg more,
      State.ended_of_no_notice (by exact h.2)] at event
    exact event
  · refine ⟨_, ?_, follows none s.line⟩
    rw [if_pos (by exact abandons), State.discard_withTile state,
      State.ended_of_no_notice (by exact (congrArg LineState.staged (State.freeEngine_keeps _).2.2.2.1).trans h.2)]
      at event
    exact event
  · refine ⟨_, ?_, follows (some { g with state := .ready }) announced⟩
    rw [if_neg (by change ¬ f.abandon = true; rw [keeps]; nofun), if_pos last, State.finishFrame_eq] at event
    exact event

/-! ## The pixels of a tile (R129 to R131) -/

theorem length_rows {α : Type} (f : Nat → Nat → α) (rows : Nat) :
    ((List.range rows).flatMap fun v => (List.range 64).map fun u => f u v).length = rows * 64 := by
  induction rows with
  | zero => rfl
  | succ rows ih =>
    rw [List.range_succ (n := rows), List.flatMap_append, List.length_append, ih, List.flatMap_singleton, List.length_map,
      List.length_range, Nat.succ_mul]

/-- Rows of 64, one after the other. -/
theorem getElem?_rows {α : Type} (f : Nat → Nat → α) {rows u v : Nat} (row : v < rows) (column : u < 64) :
    ((List.range rows).flatMap fun v => (List.range 64).map fun u => f u v)[64 * v + u]? = some (f u v) := by
  induction rows with
  | zero => cases row
  | succ rows ih =>
    rw [List.range_succ (n := rows), List.flatMap_append, List.flatMap_singleton]
    by_cases earlier : v < rows
    · rw [List.getElem?_append_left (by rw [length_rows]; omega)]
      exact ih earlier
    · have last : v = rows := by omega
      rw [List.getElem?_append_right (by rw [length_rows]; omega), length_rows, last,
        show 64 * rows + u - rows * 64 = u by omega, List.getElem?_map, List.getElem?_range column]
      rfl

theorem Frame.tile_length (f : Frame) (p : Profile) (n : Nat) : (f.tile p n).length = 4096 := by
  rw [Frame.tile, List.length_map, tilePlaces, length_rows]

/-- R129: the pixel of a tile at column `u` and row `v`. -/
theorem Frame.tile_getElem? (f : Frame) (p : Profile) (n : Nat) {u v : Nat} (column : u < 64) (row : v < 64) :
    (f.tile p n)[64 * v + u]? = some (f.pixelAt p (p.sourcePoint n u v)) := by
  rw [Frame.tile, List.getElem?_map, tilePlaces, getElem?_rows _ row column]
  rfl

theorem MeshPoint.inside_iff (q : MeshPoint) :
    q.inside = true ↔ 0 ≤ q.x ∧ q.x < 20480 ∧ 0 ≤ q.y ∧ q.y < 16384 := by
  simp only [MeshPoint.inside, Bool.and_eq_true, decide_eq_true_eq, and_assoc]

/-- Settles O45. -/
theorem tilePixelsFollowMeshColourAndGain : Obligations.TilePixelsFollowMeshColourAndGain := by
  intro f p n u v _ column row corner weigh x y inside pixelColumn line sample left top green z gain out
  rw [Frame.tile_getElem? f p n column row, Frame.pixelAt]
  have within : (p.sourcePoint n u v).inside = true ↔ inside := MeshPoint.inside_iff _
  refine ⟨Frame.tile_length f p n, fun outside => ?_, fun here => ?_⟩
  · rw [if_neg (fun h => outside (within.mp h))]
  · rw [if_pos (within.mpr here)]
    have held : pixelGain (p.shading.get z) (f.residual z) = gain := by
      rw [pixelGain, Nat.min_comm]
      rfl
    change some (Pixel.mk (gained _ (pixelGain (p.shading.get z) (f.residual z)))
      (gained _ (pixelGain (p.shading.get z) (f.residual z)))
      (gained _ (pixelGain (p.shading.get z) (f.residual z)))) = _
    rw [held]
    rfl

end Sys2Proof.Machine

/-! PROOFS. TRANSFER_STOP (R141 to R143). -/

namespace Sys2Proof.Machine

/-! ## What a stop does to the slot (R143) -/

/-- R143: what a stop leaves of a frame: freed by RELEASE; kept otherwise, HELD if it was SENDING. -/
def Frame.stopped (release : Bool) (f : Frame) : Option Frame :=
  if release then none else if f.state = .sending then some { f with state := .held } else some f

/-- A slot SENDING, or SENT, holds no reference to a bank. -/
theorem State.stopSlot_filled {s : State} {i : Fin 6} {f : Frame} (filled : s.frames.slots.get i = some f)
    (unreferenced : f.state.referencing = false) (release : Bool) :
    s.stopSlot i release = { s with frames := { s.frames with slots := s.frames.slots.set i (f.stopped release) } } := by
  rw [State.stopSlot, State.frameAt, filled]
  cases release with
  | true => exact State.discard_unreferenced filled unreferenced
  | false =>
    by_cases sending : f.state = .sending
    · have left : f.stopped false = some { f with state := .held } := if_pos sending
      rw [left]
      exact if_pos sending
    · have same : f.stopped false = some f := if_neg sending
      have stays : s.frames.slots.set i (some f) = s.frames.slots := by rw [← filled, Table.set_get]
      rw [same, stays]
      exact if_neg sending

theorem State.stopSlot_free {s : State} {i : Fin 6} (free : s.frames.slots.get i = none) (release : Bool) :
    s.stopSlot i release = s := by
  rw [State.stopSlot, State.frameAt, free]

/-- R143: the stop takes effect on the slot as it stands: the reply carries what it leaves. -/
theorem State.stopEffect_eq {s : State} {i : Fin 6} (release : Bool)
    (unreferenced : ∀ f, s.frames.slots.get i = some f → f.state.referencing = false) :
    s.stopEffect i release = State.done
      (.stop (((s.frames.slots.get i).bind (Frame.stopped release)).map Frame.state)
        (((s.frames.slots.get i).bind (Frame.stopped release)).map Frame.nextUnsent))
      { s with
        transfer := none
        frames := { s.frames with
          slots := s.frames.slots.set i ((s.frames.slots.get i).bind (Frame.stopped release)) } } := by
  rw [State.stopEffect]
  cases holds : s.frames.slots.get i with
  | none =>
    have free : (s.putTransfer none).frames.slots.get i = none := holds
    have stays : s.frames.slots.set i none = s.frames.slots := by rw [← holds, Table.set_get]
    rw [State.stopSlot_free free, State.frameAt, free, Option.bind_none, stays]
    rfl
  | some f =>
    have filled : (s.putTransfer none).frames.slots.get i = some f := holds
    have left : (s.frames.slots.set i (f.stopped release)).get i = f.stopped release :=
      (Table.get_set _ _ _ _).trans (if_pos rfl)
    rw [State.stopSlot_filled filled (unreferenced f holds), State.frameAt, Option.bind_some]
    change State.done (.stop (((s.frames.slots.set i (f.stopped release)).get i).map Frame.state)
      (((s.frames.slots.set i (f.stopped release)).get i).map Frame.nextUnsent)) _ = _
    rw [left]
    rfl

/-! ## The request (R143) -/

theorem codeNotOf_single {other : Nat} {n b0 b1 b2 b3 a : Byte} (different : a.toNat ≠ other) :
    codeNotOf [other] 5 [n, b0, b1, b2, b3, a] = true := by
  simp [codeNotOf, different]

section Stop

variable {tag n b0 b1 b2 b3 a : Byte} {c : Instr} {release : Bool} {s : State}

/-- R143, R174: TRANSFER_STOP runs in both rows by one rule, for an action code that is not the other row's. -/
theorem exec_transferStop (own : a.toNat ≠ (if release then 1 else 2))
    (row : c = if release then .transferStopRelease tag [n, b0, b1, b2, b3, a]
      else .transferStopKeep tag [n, b0, b1, b2, b3, a]) :
    exec c s = Event.run s (State.request .transferStop tag [n, b0, b1, b2, b3, a] true
      (State.transferStop (decide (a.toNat = if release then 2 else 1)) release [n, b0, b1, b2, b3, a])) := by
  have action : numberAt [n, b0, b1, b2, b3, a] 5 1 = a.toNat := numberAt_one rfl
  subst row
  cases release with
  | true =>
    change Event.run s (State.request _ tag _ (codeNotOf [1] 5 [n, b0, b1, b2, b3, a]) _) = _
    rw [codeNotOf_single (by exact own), action]
    rfl
  | false =>
    change Event.run s (State.request _ tag _ (codeNotOf [2] 5 [n, b0, b1, b2, b3, a]) _) = _
    rw [codeNotOf_single (by exact own), action]
    rfl

theorem State.transferStop_stale {i : Fin 6} {t : State} (slot : n.toNat = i.val)
    (other : t.namedFrame i (le4 b0 b1 b2 b3) = none) :
    t.transferStop true release [n, b0, b1, b2, b3, a] = t.refuse .stale := by
  rw [State.transferStop, numberAt_head, slot, slotOf_val, frameNumberOf_cons]
  dsimp only
  rw [if_pos rfl, other]

theorem State.transferStop_named {i : Fin 6} {f : Frame} {t : State} (slot : n.toNat = i.val)
    (named : t.namedFrame i (le4 b0 b1 b2 b3) = some f) :
    t.transferStop true release [n, b0, b1, b2, b3, a] =
      if f.state = .sending then t.acceptStop i release else t.refuse .wrongState := by
  rw [State.transferStop, numberAt_head, slot, slotOf_val, frameNumberOf_cons]
  dsimp only
  rw [if_pos rfl, named]

theorem State.transferStop_noSlot (known : Bool) (above : 6 ≤ n.toNat) (t : State) :
    t.transferStop known release [n, b0, b1, b2, b3, a] = t.refuse .badValue := by
  rw [State.transferStop, numberAt_head, slotOf_above above]

/-- R143: an action code that is neither row's is refused. -/
theorem State.transferStop_unknown (t : State) :
    t.transferStop false release [n, b0, b1, b2, b3, a] = t.refuse .badValue := by
  by_cases above : 6 ≤ n.toNat
  · exact State.transferStop_noSlot false above t
  · have slot : slotOf n.toNat = some ⟨n.toNat, by omega⟩ := slotOf_val ⟨n.toNat, by omega⟩
    rw [State.transferStop, numberAt_head, slot]
    exact if_neg Bool.false_ne_true

end Stop

theorem State.tileOnLine_of {s : State} {r : Transfer} (active : s.transfer = some r) : s.tileOnLine = r.onLine.isSome := by
  rw [State.tileOnLine, active]

theorem Frame.stopped_sending {f : Frame} (sending : f.state = .sending) (release : Bool) :
    f.stopped release = if release then none else some { f with state := .held } := by
  rw [Frame.stopped, if_pos sending]

/-- R143: a stop with no tile on the line takes effect at once. -/
theorem State.acceptStop_dark {s : State} {i : Fin 6} {f : Frame} {r : Transfer} (filled : s.frames.slots.get i = some f)
    (sending : f.state = .sending) (active : s.transfer = some r) (dark : r.onLine = none) (release : Bool) :
    s.acceptStop i release = State.done
      (if release then .stop none none else .stop (some .held) (some f.nextUnsent))
      { s with
        frames := { s.frames with
          slots := s.frames.slots.set i (if release then none else some { f with state := .held }) }
        transfer := none } := by
  have now : s.acceptStop i release = s.stopEffect i release := by
    rw [State.acceptStop, State.tileOnLine_of active, dark]
    rfl
  have stops := State.stopEffect_eq (s := s) (i := i) release fun g holds => by
    cases filled.symm.trans holds
    rw [sending]
    rfl
  rw [now, stops, filled, Option.bind_some, Frame.stopped_sending sending]
  cases release <;> rfl

/-- R143: with a tile on the line the decoder waits. -/
theorem State.acceptStop_lit {s : State} {r : Transfer} (active : s.transfer = some r) (lit : r.onLine ≠ none) (i : Fin 6)
    (release : Bool) : s.acceptStop i release = s.updLine (LineState.hold (.stop i release)) := by
  rw [State.acceptStop, State.tileOnLine_of active]
  exact if_pos (Option.isSome_iff_ne_none.mpr lit)

/-! ## A stop that waited for the tile on the line (R141, R142) -/

/-- R141, R142: what the tile that has left the line leaves of a frame SENDING. -/
def Frame.landed (autoReleases : Prop) [Decidable autoReleases] (tile : Nat) (f : Frame) : Option Frame :=
  if tile = 191 then
    if autoReleases then none else some { f with nextUnsent := f.nextUnsent + 1, state := .sent }
  else some { f with nextUnsent := f.nextUnsent + 1 }

theorem State.tileSent_landed {s : State} {x : OnLine} {r : Transfer} {f : Frame} {tile : Nat}
    (onLine : s.line.onLine = some x) (party : x.party = .tiles) (active : s.transfer = some r)
    (tileSent : r.onLine = some tile) (filled : s.frames.slots.get r.slot = some f) (sending : f.state = .sending) :
    s.tileSent = State.waitingStop { s with
      line := { s.line with onLine := none }
      frames := { s.frames with
        slots := s.frames.slots.set r.slot (f.landed (s.line.params.value .autoRelease = 1) tile) }
      transfer := if tile = 191 then none else some { r with onLine := none } } := by
  rw [State.tileSent_eq onLine party active tileSent, State.modifyFrame_filled (by exact filled), Frame.landed]
  by_cases last : tile = 191
  · rw [if_pos last, if_pos last, if_pos last, State.endTransfer_eq (f := { f with nextUnsent := f.nextUnsent + 1 })
      (by exact (Table.get_set _ _ _ _).trans (if_pos rfl)) (by exact sending)]
    simp only [State.putTransfer, State.updLine, Table.set_set]
    rfl
  · rw [if_neg last, if_neg last, if_neg last]
    rfl

theorem Frame.landed_unreferenced {f g : Frame} {autoReleases : Prop} [Decidable autoReleases] {tile : Nat}
    (sending : f.state = .sending) (left : f.landed autoReleases tile = some g) : g.state.referencing = false := by
  unfold Frame.landed at left
  split at left
  · split at left
    · cases left
    · cases left
      rfl
  · cases left
    exact congrArg FrameState.referencing sending

/-- R143: the stop acts on the slot as the end of the tile leaves it. -/
theorem Frame.landed_stopped {f : Frame} {autoReleases : Prop} [Decidable autoReleases] (tile : Nat) (release : Bool)
    (sending : f.state = .sending) :
    (f.landed autoReleases tile).bind (Frame.stopped release) =
      if release then none
      else if tile = 191 then
        (if autoReleases then none else some { f with nextUnsent := f.nextUnsent + 1, state := .sent })
      else some { f with nextUnsent := f.nextUnsent + 1, state := .held } := by
  have sent : ({ f with nextUnsent := f.nextUnsent + 1, state := .sent } : Frame).stopped release =
      if release then none else some { f with nextUnsent := f.nextUnsent + 1, state := .sent } := rfl
  have held : ({ f with nextUnsent := f.nextUnsent + 1 } : Frame).stopped release =
      if release then none else some { f with nextUnsent := f.nextUnsent + 1, state := .held } :=
    Frame.stopped_sending (f := { f with nextUnsent := f.nextUnsent + 1 }) sending release
  unfold Frame.landed
  by_cases last : tile = 191
  · rw [if_pos last, if_pos last]
    by_cases auto : autoReleases
    · rw [if_pos auto, Option.bind_none, ite_self]
    · rw [if_neg auto, Option.bind_some, sent]
  · rw [if_neg last, if_neg last, Option.bind_some, held]

/-- R163, R164: the reply of the TRANSFER_STOP in hand, placed with room in the queue. -/
theorem State.done_transferStop {t : State} {tag : Byte} {w : HandWait} (r : Result)
    (inHand : t.line.inHand = some { kind := 0x19, tag := tag, wait := w }) (room : t.line.outbound.length < 16)
    (quiet : t.line.staged = []) :
    (t.done r).ended = { t with line := { t.line with
      inHand := none
      outbound := t.line.outbound ++ [.reply 0x99 tag (.done r)] } } := by
  have placed : LineState.answer (.done r) t.line = { t.line with
      inHand := none
      outbound := t.line.outbound ++ [.reply 0x99 tag (.done r)] } := by
    rw [LineState.answer, inHand]
    exact if_pos room
  rw [State.done, State.answer, State.updLine, placed]
  exact State.ended_of_no_notice (by exact quiet)

/-- Settles O47. -/
theorem transferStopTakesEffectAtATileBoundary : Obligations.TransferStopTakesEffectAtATileBoundary := by
  refine ⟨?_, ?_, ?_⟩
  · intro tag n b0 b1 b2 b3 a c release s body h no rows
    have event : exec c s = Event.run s (State.request .transferStop tag body true
        (State.transferStop true release body)) := by
      rcases rows with ⟨rfl, rfl, rfl⟩ | ⟨rfl, rfl, rfl⟩
      · exact exec_transferStop (release := false) (by decide) rfl
      · exact exec_transferStop (release := true) (by decide) rfl
    have refused {r : Reason}
        (refuses : ∀ t : State, t.frames = s.frames → t.transferStop true release body = t.refuse r) : no r :=
      event.trans (Event.run_refused h (by decide) rfl (refuses _ rfl))
    refine ⟨fun above => refused fun t _ => State.transferStop_noSlot true above t, fun i slot =>
      ⟨fun other => refused fun t same => ?_, fun f filled numbered => ?_⟩⟩
    · exact State.transferStop_stale slot (State.namedFrame_none (by rw [same]; exact other))
    have rule (t : State) (same : t.frames = s.frames) : t.transferStop true release body =
        if f.state = .sending then t.acceptStop i release else t.refuse .wrongState :=
      State.transferStop_named slot (State.namedFrame_some (by rw [same]; exact filled) numbered)
    refine ⟨fun other => refused fun t same => (rule t same).trans (if_neg other), fun r sending active =>
      ⟨fun dark => ?_, fun lit => ?_⟩⟩
    · have answers := (rule (s.updLine (LineState.take RequestKind.transferStop.byte tag)) rfl).trans (if_pos sending)
      rw [State.acceptStop_dark (by exact filled) sending (by exact active) dark] at answers
      exact event.trans (Event.run_done (t := { s with
        frames := { s.frames with
          slots := s.frames.slots.set i (if release then none else some { f with state := .held }) }
        transfer := none }) h (by decide) rfl h.1.1 answers)
    · have waits := (rule (s.updLine (LineState.take RequestKind.transferStop.byte tag)) rfl).trans (if_pos sending)
      rw [State.acceptStop_lit (by exact active) lit] at waits
      rw [event, Event.run_handled h rfl, waits, State.ended_of_no_notice (by exact h.1.1.2)]
      rfl
  · intro tag n b0 b1 b2 b3 a s body h unknown
    have refuses (c : Instr) (release : Bool)
        (row : c = if release then .transferStopRelease tag body else .transferStopKeep tag body) :
        exec c s = .next (s.withRefusal .transferStop tag .badValue) := by
      have neither (k : Nat) (code : k = 1 ∨ k = 2) : a.toNat ≠ k := by omega
      have rowOnly : a.toNat ≠ (if release then 1 else 2) := neither _ (by cases release <;> simp)
      have other : decide (a.toNat = if release then 2 else 1) = false :=
        decide_eq_false (neither _ (by cases release <;> simp))
      rw [exec_transferStop rowOnly row, other]
      exact Event.run_refused h (by decide) rfl (State.transferStop_unknown _)
    exact ⟨refuses _ false rfl, refuses _ true rfl⟩
  · intro tag x r f tile release s h onLine party active sending filled state room inHand g left
    have stood : (s.frames.slots.set r.slot (f.landed (s.line.params.value .autoRelease = 1) tile)).get r.slot =
        f.landed (s.line.params.value .autoRelease = 1) tile := (Table.get_set _ _ _ _).trans (if_pos rfl)
    have event := exec_tileMessageSent h
    rw [State.tileSent_landed onLine party active sending filled state, State.waitingStop, inHand] at event
    dsimp only at event
    rw [State.stopEffect_eq release (fun k holds => Frame.landed_unreferenced state (stood.symm.trans holds))] at event
    rw [State.done_transferStop _ (by exact inHand) (by exact room) (by exact h.2)]
      at event
    dsimp only at event
    rw [stood, Frame.landed_stopped tile release state, Table.set_set] at event
    exact event

end Sys2Proof.Machine

/-! PROOFS. LOAD_PROFILE (R124, R157) and a claim to the array (R159). -/

namespace Sys2Proof.Machine

/-! ## A claim (R159) -/

theorem StoreState.arrayFree_idle {t : StoreState} (idle : t.operation = none) : t.arrayFree = true := by
  rw [StoreState.arrayFree, idle]

theorem StoreState.arrayFree_of {t : StoreState} {o : Operation} (holds : t.operation = some o) :
    t.arrayFree = !decide (o.begun = true ∧ o.suspension ≠ .suspended) := by
  rw [StoreState.arrayFree, holds]
  dsimp only
  rw [Bool.decide_and, Bool.not_and, Bool.decide_eq_true, decide_not, Bool.not_not]

/-- R159: in a free array a read is served, or joins the reads before it. -/
theorem StoreState.claim_free {t : StoreState} (free : t.arrayFree = true) (c : Claim) :
    t.claim c = if t.serving = none ∧ t.waiting = [] then { t with serving := some c }
      else { t with waiting := t.waiting ++ [c] } := by
  rw [StoreState.claim]
  simp only [free, true_and, if_true]

theorem StoreState.claim_eq (c : Claim) (t : StoreState) : t.claim c = t.claimed c := by
  unfold StoreState.claimed
  dsimp only
  cases holds : t.operation with
  | none =>
    have served := StoreState.claim_free (StoreState.arrayFree_idle holds) c
    rw [holds] at served
    exact served
  | some o =>
    by_cases runs : o.begun = true ∧ o.suspension ≠ .suspended
    · have busy : t.arrayFree = false := by
        rw [StoreState.arrayFree_of holds, decide_eq_true runs]
        rfl
      rw [StoreState.claim, busy, if_neg (fun h => absurd h.1 Bool.false_ne_true), if_neg Bool.false_ne_true, holds]
      exact (if_pos runs).symm
    · have free : t.arrayFree = true := by
        rw [StoreState.arrayFree_of holds, decide_eq_false runs]
        rfl
      have served := StoreState.claim_free free c
      rw [holds] at served
      exact served.trans (if_neg runs).symm

/-! ## The choice by bore (R157) -/

theorem StoreState.matching_eq {t : StoreState} {lens bore : Nat} {i : Fin 16} {h : RecordHeader}
    (suits : t.suits lens bore i h) : t.matching lens bore i = some (h.boreMax - h.boreMin) := by
  obtain ⟨valid, fits⟩ := suits
  rw [StoreState.matching, StoreState.entry, valid]
  exact if_pos fits

theorem StoreState.suits_of_matching {t : StoreState} {lens bore : Nat} {i : Fin 16} {w : Nat}
    (found : t.matching lens bore i = some w) : ∃ h, t.suits lens bore i h ∧ w = h.boreMax - h.boreMin := by
  unfold StoreState.matching StoreState.entry at found
  split at found
  case h_1 h valid =>
    split at found
    case isTrue fits =>
      cases found
      exact ⟨h, ⟨valid, fits⟩, rfl⟩
    case isFalse => cases found
  case h_2 => cases found

theorem foldl_narrower_none {width : Fin 16 → Option Nat} (nowhere : ∀ i, width i = none) (l : List (Fin 16)) :
    l.foldl (narrower width) none = none := by
  induction l with
  | nil => rfl
  | cons a l ih => rw [List.foldl_cons, narrower, nowhere, Option.map_none, ih]

/-- R157: the area with the narrowest band, the lowest among equals, stands as the best once it has come by, and no
earlier best keeps it away. -/
theorem foldl_narrower {width : Fin 16 → Option Nat} {i : Fin 16} {w : Nat} (own : width i = some w)
    (least : ∀ j v, j ≠ i → width j = some v → w < v ∨ w = v ∧ i < j) {l : List (Fin 16)} (sorted : l.Pairwise (· < ·))
    (best : Option (Fin 16))
    (stands : best = some i ∨ i ∈ l ∧ ∀ b, best = some b → ∃ v, width b = some v ∧ w < v) :
    l.foldl (narrower width) best = some i := by
  induction l generalizing best with
  | nil => exact stands.elim id fun h => absurd h.1 List.not_mem_nil
  | cons a l ih =>
    obtain ⟨first, sorted⟩ := List.pairwise_cons.mp sorted
    rw [List.foldl_cons]
    refine ih sorted _ ?_
    rcases stands with rfl | ⟨member, wider⟩
    · refine .inl ?_
      rw [narrower, own]
      cases width_a : width a with
      | none => rfl
      | some v =>
        refine if_neg fun narrow => ?_
        by_cases same : a = i
        · subst same
          cases own.symm.trans width_a
          exact Nat.lt_irrefl _ narrow
        · have := least a v same width_a
          omega
    · rcases List.mem_cons.mp member with rfl | later
      · refine .inl ?_
        cases best with
        | none => rw [narrower, own]; rfl
        | some b =>
          obtain ⟨v, width_b, narrow⟩ := wider b rfl
          rw [narrower, width_b, own]
          exact if_pos narrow
      · have before : a < i := first i later
        have wide (v : Nat) (width_a : width a = some v) : w < v := by
          have := least a v (ne_of_lt before) width_a
          omega
        refine .inr ⟨later, fun b new => ?_⟩
        cases best with
        | none =>
          rw [narrower] at new
          cases width_a : width a with
          | none => rw [width_a] at new; cases new
          | some v =>
            rw [width_a] at new
            cases new
            exact ⟨v, width_a, wide v width_a⟩
        | some c =>
          obtain ⟨u, width_c, narrow⟩ := wider c rfl
          rw [narrower, width_c] at new
          cases width_a : width a with
          | none =>
            rw [width_a] at new
            cases new
            exact ⟨u, width_c, narrow⟩
          | some v =>
            rw [width_a] at new
            dsimp only at new
            split at new
            · cases new
              exact ⟨v, width_a, wide v width_a⟩
            · cases new
              exact ⟨u, width_c, narrow⟩

theorem StoreState.chooseByBore_none {t : StoreState} {lens bore : Nat} (nothing : ∀ i h, ¬ t.suits lens bore i h) :
    t.chooseByBore lens bore = .refused .noProfile := by
  have nowhere (i : Fin 16) : t.matching lens bore i = none := by
    cases found : t.matching lens bore i with
    | none => rfl
    | some w =>
      obtain ⟨h, suits, -⟩ := StoreState.suits_of_matching found
      exact absurd suits (nothing i h)
  have best := foldl_narrower_none (width := t.matching lens bore) nowhere (List.finRange 16)
  unfold StoreState.chooseByBore
  rw [best]

theorem StoreState.chooseByBore_narrowest {t : StoreState} {lens bore : Nat} {i : Fin 16} {h : RecordHeader}
    (suits : t.suits lens bore i h)
    (narrowest : ∀ j k, j ≠ i → t.suits lens bore j k →
      h.boreMax - h.boreMin < k.boreMax - k.boreMin ∨
        h.boreMax - h.boreMin = k.boreMax - k.boreMin ∧ i < j) :
    t.chooseByBore lens bore = .profile (i.val + 1) := by
  have least (j : Fin 16) (v : Nat) (other : j ≠ i) (found : t.matching lens bore j = some v) :
      h.boreMax - h.boreMin < v ∨ h.boreMax - h.boreMin = v ∧ i < j := by
    obtain ⟨k, fits, rfl⟩ := StoreState.suits_of_matching found
    exact narrowest j k other fits
  have best := foldl_narrower (width := t.matching lens bore) (StoreState.matching_eq suits) least
    (List.pairwise_lt_finRange 16) none (.inr ⟨List.mem_finRange i, nofun⟩)
  unfold StoreState.chooseByBore
  rw [best]
  rfl

/-! ## The choice by id (R157) -/

theorem areaOf_val (i : Fin 16) : areaOf (i.val + 1) = some i :=
  dif_pos ⟨by omega, by omega⟩

theorem areaOf_above {n : Nat} (above : 16 < n) : areaOf n = none :=
  dif_neg fun h => by omega

section Area

variable {t : StoreState} {i : Fin 16}

theorem StoreState.chooseById_busy (entry : t.directory.get i = .busy) :
    t.chooseById (i.val + 1) = .refused .busy := by
  rw [StoreState.chooseById, if_neg (Nat.succ_ne_zero _), areaOf_val]
  dsimp only
  rw [StoreState.entry, entry]

theorem StoreState.chooseById_absent (entry : t.directory.get i = .empty ∨ t.directory.get i = .invalid) :
    t.chooseById (i.val + 1) = .refused .noProfile := by
  rw [StoreState.chooseById, if_neg (Nat.succ_ne_zero _), areaOf_val]
  dsimp only [StoreState.entry]
  rcases entry with entry | entry
  · rw [entry]
  · rw [entry]

theorem StoreState.chooseById_valid {h : RecordHeader} (entry : t.directory.get i = .valid h) :
    t.chooseById (i.val + 1) = .profile (i.val + 1) := by
  rw [StoreState.chooseById, if_neg (Nat.succ_ne_zero _), areaOf_val]
  dsimp only
  rw [StoreState.entry, entry]

end Area

theorem StoreState.chooseById_above {t : StoreState} {n : Nat} (above : 16 < n) :
    t.chooseById n = .refused .badValue := by
  rw [StoreState.chooseById, if_neg (by omega), areaOf_above above]

/-! ## The chosen profile (R124, R157) -/

theorem BankId.other_other (w : BankId) : w.other.other = w := by
  cases w <;> rfl

theorem State.spareBank_current {s : State} {w : BankId} (spare : s.spareBank w) : s.engine.current = w.other := by
  obtain ⟨empty, current⟩ := spare
  refine EngineState.current_eq current ?_
  rw [BankId.other_other, empty]
  nofun

theorem State.loadChosen_spare {s : State} {w : BankId} (spare : s.spareBank w) (id : Nat) :
    s.loadChosen (.profile id) = s.acceptLoad id w := by
  have which : s.engine.current.other = w := by rw [State.spareBank_current spare, BankId.other_other]
  rw [State.loadChosen, which, if_pos spare.1]

theorem State.loadChosen_busy {s : State} {w : BankId} (current : (s.engine.bank w).state = .current)
    (only : (s.engine.bank w.other).state ≠ .current) (full : (s.engine.bank w.other).state ≠ .empty) (id : Nat) :
    s.loadChosen (.profile id) = s.refuse .busy := by
  rw [State.loadChosen, EngineState.current_eq current only, if_neg full]

/-- R124, R157: an accepted load with the request taken. -/
theorem State.acceptLoad_taken (tag : Byte) (id : Nat) (w : BankId) (s : State) :
    State.taken (.load tag id w)
        (((s.updLine (LineState.take RequestKind.loadProfile.byte tag)).updEngine
            fun e => e.setBank w (Bank.loadingOf id)).updStore
          fun t => { t with load := some { profileId := id, bank := w, tag := tag } }) =
      s.loadTaken tag id w :=
  congrArg (fun l => { s with
      line := l
      engine := s.engine.setBank w (Bank.loadingOf id)
      store := { s.store with load := some { profileId := id, bank := w, tag := tag } } })
    (LineState.place_take (RequestKind.reply_not_resetReply (by decide) tag (.taken (.load tag id w)))
      RequestKind.loadProfile.byte tag s.line)

theorem State.acceptLoad_area (tag : Byte) (i : Fin 16) (w : BankId) (s : State) :
    (s.updLine (LineState.take RequestKind.loadProfile.byte tag)).acceptLoad (i.val + 1) w =
      (s.loadTaken tag (i.val + 1) w).updStore (StoreState.claim .load) := by
  rw [← State.acceptLoad_taken, State.acceptLoad, if_neg (Nat.succ_ne_zero _)]
  rfl

theorem State.loadTaken_staged (tag : Byte) (id : Nat) (w : BankId) (s : State) :
    (s.loadTaken tag id w).line.staged = s.line.staged :=
  LineState.withMessage_staged _ _ _ _

/-! ## The two rows (R174) -/

section Rows

variable {tag a b x y : Byte} {s : State} (h : s.handles .loadProfile tag [a, b, x, y])

theorem exec_loadProfileById (own : a.toNat ≠ 2) (s : State) :
    exec (.loadProfileById tag [a, b, x, y]) s =
      Event.run s (State.request .loadProfile tag [a, b, x, y] true fun t =>
        if a.toNat = 1 then t.loadChosen (t.store.chooseById b.toNat) else t.refuse .badValue) := by
  have code : codeNotOf [2] 0 [a, b, x, y] = true := by simp [codeNotOf, own]
  have first : numberAt [a, b, x, y] 0 1 = a.toNat := numberAt_one rfl
  have second : numberAt [a, b, x, y] 1 1 = b.toNat := numberAt_one rfl
  have rule : State.loadById [a, b, x, y] = fun t =>
      if a.toNat = 1 then t.loadChosen (t.store.chooseById b.toNat) else t.refuse .badValue :=
    funext fun t => by rw [State.loadById, first, second]
  rw [← rule, ← code]
  rfl

theorem exec_loadProfileByBore (own : a.toNat ≠ 1) (s : State) :
    exec (.loadProfileByBore tag [a, b, x, y]) s =
      Event.run s (State.request .loadProfile tag [a, b, x, y] true fun t =>
        if a.toNat = 2 then t.loadChosen (t.store.chooseByBore b.toNat (le2 x y)) else t.refuse .badValue) := by
  have code : codeNotOf [1] 0 [a, b, x, y] = true := by simp [codeNotOf, own]
  have first : numberAt [a, b, x, y] 0 1 = a.toNat := numberAt_one rfl
  have second : numberAt [a, b, x, y] 1 1 = b.toNat := numberAt_one rfl
  have third : numberAt [a, b, x, y] 2 2 = le2 x y := numberAt_two (Nat.le_refl 4)
  have rule : State.loadByBore [a, b, x, y] = fun t =>
      if a.toNat = 2 then t.loadChosen (t.store.chooseByBore b.toNat (le2 x y)) else t.refuse .badValue :=
    funext fun t => by rw [State.loadByBore, first, second, third]
  rw [← rule, ← code]
  rfl

include h

/-- R157: a refused choice. -/
theorem Event.run_load_refused {rule : State → State} {r : Reason}
    (refuses : ∀ t : State, t.store = s.store → rule t = t.refuse r) :
    Event.run s (State.request .loadProfile tag [a, b, x, y] true rule) = .next (s.withRefusal .loadProfile tag r) :=
  Event.run_refused h (by decide) rfl (refuses _ rfl)

/-- R124, R157: the profile of an area is loaded into the spare bank, or the bank is busy. -/
theorem Event.run_load_area {rule : State → State} {i : Fin 16}
    (chooses : ∀ t : State, t.store = s.store → rule t = t.loadChosen (.profile (i.val + 1))) :
    (∀ w, s.spareBank w →
      let t := s.loadTaken tag (i.val + 1) w
      Event.run s (State.request .loadProfile tag [a, b, x, y] true rule) =
        .next { t with store := t.store.claimed .load }) ∧
    (∀ w, (s.engine.bank w).state = .current → (s.engine.bank w.other).state ≠ .current →
      (s.engine.bank w.other).state ≠ .empty →
        Event.run s (State.request .loadProfile tag [a, b, x, y] true rule) =
          .next (s.withRefusal .loadProfile tag .busy)) := by
  refine ⟨fun w spare => ?_, fun w current only full => ?_⟩
  · have event := Event.run_handled h rfl rule
    rw [chooses (s.updLine (LineState.take RequestKind.loadProfile.byte tag)) rfl, State.loadChosen_spare (w := w) (by exact spare), State.acceptLoad_area, State.updStore,
      StoreState.claim_eq, State.ended_of_no_notice (by exact (State.loadTaken_staged _ _ _ s).trans h.1.1.2)] at event
    exact event
  · exact Event.run_refused h (by decide) rfl
      ((chooses (s.updLine (LineState.take RequestKind.loadProfile.byte tag)) rfl).trans
        (State.loadChosen_busy (w := w) (by exact current) (by exact only) (by exact full) _))

end Rows

/-- Settles O48. -/
theorem loadProfileChoosesAProfileAndABank : Obligations.LoadProfileChoosesAProfileAndABank := by
  intro tag a b x y s h byId byBore no loads
  have refused {c : Instr} {rule : State → State} {r : Reason}
      (event : exec c s = Event.run s (State.request .loadProfile tag [a, b, x, y] true rule))
      (refuses : ∀ t : State, t.store = s.store → rule t = t.refuse r) : no c r :=
    event.trans (Event.run_load_refused h refuses)
  have loaded {c : Instr} {rule : State → State} {i : Fin 16}
      (event : exec c s = Event.run s (State.request .loadProfile tag [a, b, x, y] true rule))
      (chooses : ∀ t : State, t.store = s.store → rule t = t.loadChosen (.profile (i.val + 1))) : loads c i := by
    obtain ⟨serves, busy⟩ := Event.run_load_area h chooses
    exact ⟨fun w spare => event.trans (serves w spare),
      fun w current only full => event.trans (busy w current only full)⟩
  refine ⟨fun unknown => ⟨?_, ?_⟩, ?_, ?_⟩
  · exact refused (exec_loadProfileById (by omega) s) fun t _ => if_neg (by omega)
  · exact refused (exec_loadProfileByBore (by omega) s) fun t _ => if_neg (by omega)
  · rintro rfl
    have event := exec_loadProfileById (tag := tag) (a := 1) (b := b) (x := x) (y := y) (by decide) s
    have rule (t : State) (same : t.store = s.store) {choice : Choice}
        (chosen : s.store.chooseById b.toNat = choice) :
        (if (1 : Byte).toNat = 1 then t.loadChosen (t.store.chooseById b.toNat) else t.refuse .badValue) =
          t.loadChosen choice := by
      rw [same, chosen]
      exact if_pos rfl
    refine ⟨fun above => refused event fun t same => rule t same (StoreState.chooseById_above above), fun i area => ?_⟩
    rw [area] at event rule
    exact ⟨fun busy => refused event fun t same => rule t same (StoreState.chooseById_busy busy),
      fun absent => refused event fun t same => rule t same (StoreState.chooseById_absent absent),
      fun header valid => loaded event fun t same => rule t same (StoreState.chooseById_valid valid)⟩
  · rintro rfl
    have event := exec_loadProfileByBore (tag := tag) (a := 2) (b := b) (x := x) (y := y) (by decide) s
    have rule (t : State) (same : t.store = s.store) {choice : Choice}
        (chosen : s.store.chooseByBore b.toNat (le2 x y) = choice) :
        (if (2 : Byte).toNat = 2 then t.loadChosen (t.store.chooseByBore b.toNat (le2 x y)) else t.refuse .badValue) =
          t.loadChosen choice := by
      rw [same, chosen]
      exact if_pos rfl
    exact ⟨fun nothing => refused event fun t same => rule t same (StoreState.chooseByBore_none nothing),
      fun i header suits narrowest =>
        loaded event fun t same => rule t same (StoreState.chooseByBore_narrowest suits narrowest)⟩

end Sys2Proof.Machine

/-! PROOFS. The end of a load (R125, R126, R158). -/

namespace Sys2Proof.Machine

/-! ## The bank that is filled (R125, R126) -/

theorem EngineState.bank_setBank_other (e : EngineState) (w : BankId) (k : Bank) :
    (e.setBank w k).bank w.other = e.bank w.other := by
  cases w <;> rfl

/-- R126: the bank that is LOADED while the other one is CURRENT is swapped in. -/
theorem State.bankSwapped_due {s : State} {w : BankId} (loaded : (s.engine.bank w).state = .loaded)
    (current : (s.engine.bank w.other).state = .current) : s.bankSwapped = s.swapped w := by
  have spare : (if s.engine.bankB.state = .current then BankId.a else .b) = w := by
    cases w with
    | a => exact if_pos current
    | b => exact if_neg (by change s.engine.bankB.state = .loaded at loaded; rw [loaded]; nofun)
  rw [State.bankSwapped, spare]
  exact if_pos loaded

theorem State.fillBank_busy {s : State} (busy : ¬ s.pathIdle) (w : BankId) (id : Nat) (p : Profile) :
    s.fillBank w id p = s.bankLoaded w id p :=
  State.swapIfDue_busy (s := s.bankLoaded w id p) busy

theorem State.fillBank_idle {s : State} {w : BankId} (idle : s.pathIdle)
    (current : (s.engine.bank w.other).state = .current) (id : Nat) (p : Profile) :
    s.fillBank w id p = s.bankSwappedIn w id p := by
  have filled : ((s.bankLoaded w id p).engine.bank w).state = .loaded := by
    rw [State.bankLoaded, EngineState.bank_setBank]
  have other : ((s.bankLoaded w id p).engine.bank w.other).state = .current := by
    rw [State.bankLoaded, EngineState.bank_setBank_other]
    exact current
  exact (State.swapIfDue_idle (s := s.bankLoaded w id p) idle).trans (State.bankSwapped_due filled other)

/-! ## A load of profile 0 (R158) -/

theorem State.acceptLoad_builtin (tag : Byte) (w : BankId) (s : State) :
    (s.updLine (LineState.take RequestKind.loadProfile.byte tag)).acceptLoad 0 w =
      ((s.loadTaken tag 0 w).fillBank w 0 Profile.builtin).reportLoad { profileId := 0, bank := w, tag := tag } .ok := by
  rw [← State.acceptLoad_taken, State.acceptLoad, if_pos rfl]
  rfl

theorem exec_load_builtin {tag b x y : Byte} {w : BankId} {s : State} (h : s.handles .loadProfile tag [1, b, x, y])
    (zero : b = 0) (spare : s.spareBank w) :
    exec (.loadProfileById tag [1, b, x, y]) s =
      .next (((s.loadTaken tag 0 w).fillBank w 0 Profile.builtin).reportLoad
        { profileId := 0, bank := w, tag := tag } .ok).ended := by
  subst zero
  have event := (exec_loadProfileById (by decide) s).trans (Event.run_handled h rfl _)
  change _ = Host.Outcome.next
    ((s.updLine (LineState.take RequestKind.loadProfile.byte tag)).loadChosen (.profile 0)).ended at event
  rw [State.loadChosen_spare (w := w) (by exact spare), State.acceptLoad_builtin] at event
  exact event

/-! ## The end of a load from an area (R158, R159) -/

theorem StoreState.serveNext_eq (t : StoreState) : t.serveNext = t.released := by
  unfold StoreState.serveNext StoreState.released
  cases waiting : t.waiting with
  | nil => rfl
  | cons c rest => rfl

/-- R158, R159: a load that has ended leaves no load record, its notice is placed, and the array goes on. -/
theorem State.reportLoad_served (l : LoadRecord) (r : LoadResult) (x : State) :
    ((x.reportLoad l r).updStore StoreState.serveNext).ended =
      State.loadReported l.tag l.profileId l.bank r { x with store := { x.store.released with load := none } } := by
  have served : StoreState.serveNext { x.store with load := none } = { x.store.released with load := none } :=
    StoreState.serveNext_eq _
  rw [← served]
  rfl

section LoadEnd

variable {s : State} {l : LoadRecord} {i : Fin 16}

/-- R158: the area as the read finds it. -/
def State.decayedTo (i : Fin 16) (cells : List Host.Cell) (s : State) : State :=
  { s with store := { s.store with
      areas := s.store.areas.set i
        { s.store.areas.get i with mem := (s.store.areas.get i).mem.overlay cells } } }

theorem State.loadEnded_eq (serving : s.store.serving = some .load) (load : s.store.load = some l)
    (area : l.profileId = i.val + 1) (cells : List Host.Cell) :
    s.loadEnded cells =
      (if recordPasses (((s.store.areas.get i).mem.overlay cells).readRun 0 1609) (i.val + 1) then
        (s.decayedTo i cells).loadPassed l (((s.store.areas.get i).mem.overlay cells).readRun 0 1609)
      else (s.decayedTo i cells).loadFailed l i).updStore StoreState.serveNext := by
  have decayed : s.updStore (StoreState.decay i cells) = s.decayedTo i cells := rfl
  have record : ((s.decayedTo i cells).store.areas.get i).record =
      ((s.store.areas.get i).mem.overlay cells).readRun 0 1609 := by
    have now : (s.decayedTo i cells).store.areas.get i = _ := (Table.get_set _ i i _).trans (if_pos rfl)
    rw [now]
    rfl
  rw [State.loadEnded, serving, load]
  dsimp only
  rw [area, areaOf_val]
  dsimp only
  rw [decayed, record]

end LoadEnd

/-- Settles O49. -/
theorem loadEndsFillOrEmptyTheBank : Obligations.LoadEndsFillOrEmptyTheBank := by
  refine ⟨?_, ?_⟩
  · intro tag b x y w s h zero spare t u
    have event := exec_load_builtin h zero spare
    have current : ((s.loadTaken tag 0 w).engine.bank w.other).state = .current := by
      rw [State.loadTaken, State.withTaken, State.withReply, EngineState.bank_setBank_other]
      exact spare.2
    refine ⟨fun busy => ?_, fun idle => ?_⟩
    · rw [State.fillBank_busy (by exact busy)] at event
      exact event
    · rw [State.fillBank_idle (by exact idle) current] at event
      exact event
  · intro cells s h
    have event : exec (.loadEnd cells) s = .next (s.loadEnded cells).ended := exec_ordinary h nofun nofun
    refine ⟨fun unserved => ?_, fun l i serving load area loading current => ?_⟩
    · have same : s.loadEnded cells = s := by
        unfold State.loadEnded
        split
        case h_1 serving _ => exact absurd serving unserved
        case h_2 => rfl
      rw [event, same, State.ended_of_no_notice h.2]
    intro mem record found u
    rw [State.loadEnded_eq serving load area] at event
    refine ⟨fun passes => ?_, fun fails => ?_⟩
    · rw [if_pos passes, State.loadPassed] at event
      refine ⟨fun busy => ?_, fun idle => ?_⟩
      · rw [State.fillBank_busy (by exact busy), State.reportLoad_served] at event
        exact event
      · rw [State.fillBank_idle (by exact idle) (by exact current), State.reportLoad_served] at event
        exact event
    · rw [if_neg (ne_true_of_eq_false fails), State.loadFailed, State.reportLoad_served] at event
      exact event

end Sys2Proof.Machine

/-! PROOFS. Staging, the permit and the abandonment of a background operation (R150 to R152). -/

namespace Sys2Proof.Machine

/-! ## STORE_STAGE (R150) -/

theorem StoreState.committing_iff (t : StoreState) :
    t.committing = true ↔ ∃ o i, t.operation = some o ∧ o.kind = .commit i := by
  unfold StoreState.committing
  constructor
  · intro commits
    split at commits
    case h_1 o holds =>
      split at commits
      case h_1 i kind => exact ⟨o, i, holds, kind⟩
      case h_2 => cases commits
    case h_2 => cases commits
  · rintro ⟨o, i, holds, kind⟩
    rw [holds]
    dsimp only
    rw [kind]

section Stage

variable {tag o0 o1 n0 n1 : Byte} {data : List Byte} {t : State}

theorem State.storeStage_eq (o0 o1 n0 n1 : Byte) (data : List Byte) (t : State) :
    t.storeStage (o0 :: o1 :: n0 :: n1 :: data) =
      if ¬ (1 ≤ le2 n0 n1 ∧ le2 n0 n1 ≤ 256 ∧ le2 o0 o1 + le2 n0 n1 ≤ 4096) then t.refuse .badValue
      else if t.store.committing then t.refuse .busy
      else (t.updStore fun u => { u with staging := u.staging.writeRun (le2 o0 o1) data }).done .nothing := by
  have offset : numberAt (o0 :: o1 :: n0 :: n1 :: data) 0 2 = le2 o0 o1 := numberAt_two (by simp)
  have length : numberAt (o0 :: o1 :: n0 :: n1 :: data) 2 2 = le2 n0 n1 := numberAt_two (by simp)
  rw [State.storeStage, offset, length]
  exact if_congr (by omega) rfl rfl

theorem storeStage_fits (same : data.length = le2 n0 n1) :
    RequestKind.storeStage.bodyFits (o0 :: o1 :: n0 :: n1 :: data) = true := by
  have length : numberAt (o0 :: o1 :: n0 :: n1 :: data) 2 2 = le2 n0 n1 := numberAt_two (by simp)
  have fits : RequestKind.storeStage.bodyFits (o0 :: o1 :: n0 :: n1 :: data) =
      (decide (4 ≤ data.length + 4) && decide (data.length + 4 = 4 + numberAt (o0 :: o1 :: n0 :: n1 :: data) 2 2)) := rfl
  rw [fits, length, ← same]
  simp [Nat.add_comm]

end Stage

/-- Settles O50. -/
theorem stagingAndPermit : Obligations.StagingAndPermit := by
  refine ⟨?_, fun tag s => ⟨fun h => ⟨fun shut => ?_, fun up free => ?_⟩, fun h => ?_⟩⟩
  · intro tag o0 o1 n0 n1 data s body offset n h same legal committing
    have fits := storeStage_fits (o0 := o0) (o1 := o1) same
    have rule := State.storeStage_eq o0 o1 n0 n1 data (s.updLine (LineState.take RequestKind.storeStage.byte tag))
    refine ⟨fun illegal => ?_, fun fine commits => ?_, fun fine idle => ?_⟩
    · exact Event.run_refused h (by decide) fits (rule.trans (if_pos illegal))
    · exact Event.run_refused h (by decide) fits
        (rule.trans ((if_neg (not_not.mpr fine)).trans (if_pos ((StoreState.committing_iff _).mpr commits))))
    · refine ⟨s.store.staging.writeRun offset data, ?_, fun wf => ⟨Memory.writeRun_wf data offset wf, fun x => ?_⟩⟩
      · exact Event.run_done (t := { s with
            store := { s.store with staging := s.store.staging.writeRun offset data } }) h (by decide) fits h.1.1
          (rule.trans ((if_neg (not_not.mpr fine)).trans
            (if_neg fun commits => idle ((StoreState.committing_iff _).mp commits))))
      · rw [Memory.read_writeRun data offset x wf, same]
  · have locked : State.locked (s.updLine (LineState.take RequestKind.storePermit.byte tag)) = true :=
      Bool.or_eq_true_iff.mpr shut
    exact Event.run_refused h (by decide) rfl (if_pos locked)
  · have unlocked : ¬ State.locked (s.updLine (LineState.take RequestKind.storePermit.byte tag)) = true := by
      change ¬ (s.store.lockdown || s.pins.wprot) = true
      rw [up, free]
      nofun
    exact Event.run_done (t := { s with store := { s.store with permit := true } }) h (by decide) rfl h.1.1
      (if_neg unlocked)
  · exact Event.run_done (t := { s with store := { s.store with permit := false } }) h (by decide) rfl h.1.1 rfl

/-! ## What an abandonment leaves of the array (R148, R152) -/

section Interrupt

variable {t : StoreState} {o : Operation}

theorem StoreState.interrupt_begun (holds : t.operation = some o) (begun : o.begun = true) (early : o.phase ≠ .verifying) :
    (∀ i, o.kind = .commit i ∨ o.kind = .erase i ∨ o.kind = .eraseAll i → t.interrupt = t.disturb i) ∧
    (∀ p, o.kind = .protect p → t.interrupt = { t with control := .bad }) := by
  rw [StoreState.interrupt, holds]
  dsimp only
  rw [if_pos ⟨begun, early⟩]
  refine ⟨fun i kind => ?_, fun p kind => ?_⟩
  · rcases kind with kind | kind | kind
    · rw [kind]
    · rw [kind]
    · rw [kind]
  · rw [kind, ← holds]

theorem StoreState.interrupt_waiting (holds : t.operation = some o) (waits : o.begun = false) : t.interrupt = t := by
  rw [StoreState.interrupt, holds]
  exact if_neg fun h => by rw [waits] at h; cases h.1

/-- The area of an operation on one area, or the area ALL has come to. -/
theorem StoreState.interrupt_area {i : Fin 16} (holds : t.operation = some o) (early : o.phase ≠ .verifying)
    (kind : o.kind = .commit i ∨ o.kind = .erase i ∨ o.kind = .eraseAll i) :
    t.interrupt = { t with areas := t.interrupt.areas, disturbances := t.interrupt.disturbances } ∧
      (o.begun = true → (t.interrupt.areas.get i).disturbed ≠ none) ∧
      (∀ j, o.begun = false ∨ j ≠ i → t.interrupt.areas.get j = t.areas.get j) := by
  cases begun : o.begun with
  | false =>
    rw [StoreState.interrupt_waiting holds begun]
    exact ⟨rfl, nofun, fun _ _ => rfl⟩
  | true =>
    rw [(StoreState.interrupt_begun holds begun early).1 i kind]
    refine ⟨rfl, fun _ => ?_, fun j apart => ?_⟩
    · rw [StoreState.disturb, Table.get_modify, if_pos rfl]
      nofun
    · rw [StoreState.disturb, Table.get_modify, if_neg fun same => ?_]
      exact apart.elim nofun fun other => other same.symm

/-- R152: an operation on one area is stopped: its area takes the scan's judgment. -/
theorem StoreState.stopped_one {i : Fin 16} (holds : t.operation = some o) (early : o.phase ≠ .verifying)
    (kind : o.kind = .commit i ∨ o.kind = .erase i) :
    t.stopped o (t.interrupt.putEntry i (t.interrupt.judgedEntry i)) := by
  obtain ⟨rest, disturbed, same⟩ := StoreState.interrupt_area holds early (kind.imp_right .inl)
  have inWork (j : Fin 16) : o.kind.inWork j ↔ j = i := by
    rcases kind with kind | kind <;> rw [kind] <;> rfl
  have toDo (j : Fin 16) : o.kind.stillToDo j ↔ j = i := by
    rcases kind with kind | kind <;> rw [kind] <;> rfl
  have directory : t.interrupt.directory = t.directory := (congrArg (fun u => u.directory) rest :)
  refine ⟨?_, fun j begun works => ?_, fun j apart => ?_, fun j left wf => ?_, fun j done => ?_, fun _ => ?_,
    fun p other => ?_⟩
  · rw [rest]
    rfl
  · rw [(inWork j).mp works]
    exact disturbed begun
  · exact same j (apart.imp_right (mt (inWork j).mpr))
  · cases (toDo j).mp left
    have judged := StoreState.scans_judged (t := t.interrupt) (i := i) wf
    have entry : (t.interrupt.putEntry i (t.interrupt.judgedEntry i)).directory.get i = t.interrupt.judgedEntry i :=
      (Table.get_set _ _ _ _).trans (if_pos rfl)
    rw [entry]
    exact judged
  · rw [← directory]
    exact (Table.get_set _ _ _ _).trans (if_neg fun here => done ((toDo j).mpr here.symm))
  · exact ⟨(congrArg (fun u => u.control) rest :), (congrArg (fun u => u.protectSet) rest :)⟩
  · rcases kind with kind | kind
    · cases kind.symm.trans other
    · cases kind.symm.trans other

/-- R152, R154: under ALL the areas not yet done take the scan's judgment. -/
theorem StoreState.stopped_all {i : Fin 16} (holds : t.operation = some o) (early : o.phase ≠ .verifying)
    (kind : o.kind = .eraseAll i) :
    t.stopped o { t.interrupt with
      directory := Table.ofFn fun j => if j < i then t.interrupt.entry j else t.interrupt.judgedEntry j } := by
  obtain ⟨rest, disturbed, same⟩ := StoreState.interrupt_area holds early (.inr (.inr kind))
  have inWork (j : Fin 16) : o.kind.inWork j ↔ j = i := by rw [kind]; rfl
  have toDo (j : Fin 16) : o.kind.stillToDo j ↔ i ≤ j := by rw [kind]; rfl
  have directory : t.interrupt.directory = t.directory := (congrArg (fun u => u.directory) rest :)
  refine ⟨?_, fun j begun works => ?_, fun j apart => ?_, fun j left wf => ?_, fun j done => ?_, fun _ => ?_,
    fun p other => ?_⟩
  · rw [rest]
  · rw [(inWork j).mp works]
    exact disturbed begun
  · exact same j (apart.imp_right (mt (inWork j).mpr))
  · have judged := StoreState.scans_judged (t := t.interrupt) (i := j) wf
    rw [Table.get_ofFn, if_neg (not_lt.mpr ((toDo j).mp left))]
    exact judged
  · rw [Table.get_ofFn, if_pos (not_le.mp (mt (toDo j).mpr done)), StoreState.entry, directory]
  · exact ⟨(congrArg (fun u => u.control) rest :), (congrArg (fun u => u.protectSet) rest :)⟩
  · cases kind.symm.trans other

/-- R152, R155: a protect write that has begun leaves a control record that fails its check. -/
theorem StoreState.stopped_protect {p : BitVec 16} (holds : t.operation = some o) (early : o.phase ≠ .verifying)
    (kind : o.kind = .protect p) : t.stopped o { t.interrupt with protectSet := t.interrupt.control.protects } := by
  have control : t.interrupt = { t with control := if o.begun = true then .bad else t.control } := by
    cases begun : o.begun with
    | false => exact StoreState.interrupt_waiting holds begun
    | true => exact (StoreState.interrupt_begun holds begun early).2 p kind
  have noWork (j : Fin 16) : ¬ o.kind.inWork j := by rw [kind]; exact id
  have nothing (j : Fin 16) : ¬ o.kind.stillToDo j := by rw [kind]; exact id
  rw [control]
  refine ⟨rfl, fun j _ works => absurd works (noWork j), fun _ _ => rfl, fun j left => absurd left (nothing j),
    fun _ _ => rfl, fun other => absurd kind (other p), fun _ _ => ⟨rfl, ?_⟩⟩
  dsimp only
  cases (if o.begun = true then Control.bad else t.control) <;> rfl

/-- R152: what the abandonment of an operation makes of the array. -/
theorem StoreState.stopped_rejudged (holds : t.operation = some o) (early : o.phase ≠ .verifying) :
    t.stopped o (t.interrupt.rejudged o.kind) := by
  cases kind : o.kind with
  | commit i => exact StoreState.stopped_one holds early (.inl kind)
  | erase i => exact StoreState.stopped_one holds early (.inr kind)
  | eraseAll i => exact StoreState.stopped_all holds early kind
  | protect p => exact StoreState.stopped_protect holds early kind

/-! ## The end of an operation (R151, R153) -/

theorem StoreState.serveAfterOperation_eq (t : StoreState) :
    t.serveAfterOperation = { t with
      serving := if t.serving = none then t.waiting.head? else t.serving
      waiting := if t.serving = none then t.waiting.tail else t.waiting } := by
  unfold StoreState.serveAfterOperation
  by_cases free : t.serving = none
  · rw [if_pos free, if_pos free, if_pos free]
    cases waiting : t.waiting with
    | nil => exact congrArg₂ (fun served waiting => { t with serving := served, waiting := waiting }) free waiting
    | cons c rest => rfl
  · rw [if_neg free, if_neg free, if_neg free]

theorem State.endOperation_ended (tag : Byte) (r : OperationResult) (s : State) :
    (s.endOperation tag r).ended = s.storeDone tag r s.store := by
  rw [State.endOperation, State.storeDone, State.updStore, StoreState.serveAfterOperation_eq]
  rfl

/-- R152: an operation in VERIFYING goes on, and without one there is nothing to abandon. -/
theorem State.abandonOperation_spared {s : State}
    (spared : ∀ o, s.store.operation = some o → o.phase = .verifying) : s.abandonOperation = s := by
  unfold State.abandonOperation
  split
  case h_1 o holds => exact if_pos (spared o holds)
  case h_2 => rfl

theorem State.abandonOperation_early {s : State} (holds : s.store.operation = some o) (early : o.phase ≠ .verifying) :
    s.abandonOperation.ended = s.storeDone o.tag .aborted (s.store.interrupt.rejudged o.kind) := by
  rw [State.abandonOperation, holds]
  dsimp only
  rw [if_neg early, State.endOperation_ended]
  rfl

end Interrupt

/-- Settles O51. -/
theorem lockdownAndWprotAbandonTheOperation : Obligations.LockdownAndWprotAbandonTheOperation := by
  intro tag s down wired spared
  have locks (h : s.handles .storeLockdown tag []) : exec (.storeLockdown tag []) s =
      .next (State.abandonOperation (down.withDone .storeLockdown tag .nothing)).ended := by
    have taken : State.done .nothing (down.updLine (LineState.take RequestKind.storeLockdown.byte tag)) =
        down.withDone .storeLockdown tag .nothing := State.done_taken (by decide) tag .nothing down
    rw [← taken]
    exact Event.run_handled h rfl State.storeLockdown
  have wires (h : s.between) : exec .wprotAsserted s = .next wired.abandonOperation.ended := exec_ordinary h nofun nofun
  refine ⟨fun goesOn => ⟨fun h => ?_, fun h => ?_⟩, fun o holds early => ⟨fun h => ?_, fun h => ?_⟩, fun h => ?_⟩
  · rw [locks h, State.abandonOperation_spared (by exact goesOn)]
    exact congrArg Host.Outcome.next (State.withReply_ended (s := down) h.1.1 _ _ _)
  · rw [wires h, State.abandonOperation_spared (by exact goesOn), State.ended_of_no_notice (by exact h.2)]
  · refine ⟨_, StoreState.stopped_rejudged (t := down.store) holds early, ?_⟩
    rw [locks h, State.abandonOperation_early (by exact holds) early]
    rfl
  · refine ⟨_, StoreState.stopped_rejudged (t := wired.store) holds early, ?_⟩
    rw [wires h, State.abandonOperation_early (by exact holds) early]
  · have event : exec .wprotReleased s = .next (s.updPins fun p => { p with wprot := false }).ended :=
      exec_ordinary h nofun nofun
    rw [event, State.ended_of_no_notice (by exact h.2)]
    rfl

end Sys2Proof.Machine

/-! PROOFS. The tests of the write requests (R153 to R155). -/

namespace Sys2Proof.Machine

/-! ## The tests in their order -/

theorem StoreState.loading_eq (t : StoreState) (i : Fin 16) :
    t.loading i = t.load.any fun l => decide (l.profileId = i.val + 1) := by
  unfold StoreState.loading
  cases t.load <;> rfl

theorem StoreState.loadingAny_eq (t : StoreState) : t.loadingAny = t.load.any fun l => decide (1 ≤ l.profileId) := by
  unfold StoreState.loadingAny
  cases t.load <;> rfl

/-- The tests that come before those of the request itself, and then the loads. -/
theorem State.writeTests_eq (shielded loading : Bool) (s : State) :
    s.writeTests shielded loading =
      (s.writeRefusal shielded).or (if loading = true then some .busy else none) := by
  have locked : (s.store.lockdown = true ∨ s.pins.wprot = true) ↔ s.locked = true := by
    rw [State.locked, Bool.or_eq_true]
  have busy : s.store.operation.isSome = true ↔ s.store.operation ≠ none := Option.isSome_iff_ne_none
  unfold State.writeTests State.writeRefusal
  simp only [locked, busy]
  by_cases permit : s.store.permit = false
  · rw [if_pos permit, if_pos permit, Option.some_or]
  rw [if_neg permit, if_neg permit]
  by_cases shield : shielded = true
  · rw [if_pos shield, if_pos shield, Option.some_or]
  rw [if_neg shield, if_neg shield]
  by_cases lock : s.locked = true
  · rw [if_pos lock, if_pos lock, Option.some_or]
  rw [if_neg lock, if_neg lock]
  by_cases running : s.store.operation ≠ none
  · rw [if_pos (.inl running), if_pos running, Option.some_or]
  · simp only [running, false_or, if_false, Option.none_or]

theorem StoreState.accept_eq (kind : OperationKind) (phase : Phase) (tag : Byte) (t : StoreState) :
    t.accept kind phase tag = { t with operation := some (Operation.started kind phase tag t) } := by
  have begun : (decide (t.serving = none) && t.waiting.isEmpty) = decide (t.serving = none ∧ t.waiting = []) := by
    rw [Bool.decide_and]
    cases t.waiting <;> rfl
  rw [StoreState.accept, begun]
  rfl

/-! ## The three requests -/

theorem State.writeTests_some {shielded loading : Bool} {s : State} {r : Reason}
    (refused : s.writeTests shielded loading = some r) :
    s.writeRefusal shielded = some r ∨ s.writeRefusal shielded = none ∧ loading = true ∧ r = .busy := by
  rw [State.writeTests_eq] at refused
  cases first : s.writeRefusal shielded with
  | some q =>
    rw [first, Option.some_or] at refused
    exact .inl refused
  | none =>
    rw [first, Option.none_or] at refused
    cases busy : loading with
    | false =>
      rw [busy] at refused
      cases refused
    | true =>
      rw [busy] at refused
      cases refused
      exact .inr ⟨rfl, rfl, rfl⟩

theorem State.writeTests_none {shielded loading : Bool} {s : State} (passed : s.writeTests shielded loading = none) :
    s.writeRefusal shielded = none ∧ loading = false := by
  rw [State.writeTests_eq, Option.or_eq_none_iff] at passed
  obtain ⟨first, second⟩ := passed
  refine ⟨first, Bool.eq_false_iff.mpr fun busy => ?_⟩
  rw [if_pos busy] at second
  cases second

section Requests

variable {s : State} {i : Fin 16} {r : Reason}

theorem State.commitRefusal_some
    (refused : s.writeTests (s.store.isProtected i) (s.store.loading i) = some r) : s.commitRefusal i = some r := by
  rw [State.commitRefusal]
  rcases State.writeTests_some refused with first | ⟨first, busy, rfl⟩
  · rw [first]
  · rw [first]
    exact if_pos busy

theorem State.commitRefusal_passed
    (passed : s.writeTests (s.store.isProtected i) (s.store.loading i) = none) :
    s.commitRefusal i = if recordPasses s.store.stagedRecord (areaId i) then none else some .badValue := by
  obtain ⟨first, free⟩ := State.writeTests_none passed
  rw [State.commitRefusal, first]
  exact if_neg (ne_true_of_eq_false free)

theorem State.eraseOne_refused
    (refused : s.writeTests (s.store.isProtected i) (s.store.loading i) = some r) : s.eraseOne i = s.refuse r := by
  rw [State.eraseOne]
  rcases State.writeTests_some refused with first | ⟨first, busy, rfl⟩
  · rw [first]
  · rw [first]
    exact if_pos busy

theorem State.eraseOne_accepted
    (passed : s.writeTests (s.store.isProtected i) (s.store.loading i) = none) :
    s.eraseOne i = State.taken .nothing { s with store := { s.store with
      directory := s.store.directory.set i .busy
      operation := some (Operation.started (.erase i) .erasing s.tagInHand s.store) } } := by
  obtain ⟨first, free⟩ := State.writeTests_none passed
  rw [State.eraseOne, first]
  refine (if_neg (ne_true_of_eq_false free)).trans ?_
  simp only [StoreState.accept_eq]
  rfl

theorem State.eraseAll_refused
    (refused : s.writeTests (decide (s.store.protectSet ≠ 0)) s.store.loadingAny = some r) :
    s.eraseAll = s.refuse r := by
  rw [State.eraseAll]
  rcases State.writeTests_some refused with first | ⟨first, busy, rfl⟩
  · rw [first]
  · rw [first]
    exact if_pos busy

theorem State.eraseAll_accepted
    (passed : s.writeTests (decide (s.store.protectSet ≠ 0)) s.store.loadingAny = none) :
    s.eraseAll = State.taken .nothing { s with store := { s.store with
      directory := Table.fill 16 .busy
      operation := some (Operation.started (.eraseAll 0) .erasing s.tagInHand s.store) } } := by
  obtain ⟨first, free⟩ := State.writeTests_none passed
  rw [State.eraseAll, first]
  refine (if_neg (ne_true_of_eq_false free)).trans ?_
  simp only [StoreState.accept_eq]
  rfl

/-- R155: a protect write has no test of the loads. -/
theorem State.storeProtect_refused {body : List Byte} (refused : s.writeTests false false = some r) :
    s.storeProtect body = s.refuse r := by
  rcases State.writeTests_some refused with first | ⟨_, busy, _⟩
  · rw [State.storeProtect, first]
  · cases busy

theorem State.storeProtect_accepted {body : List Byte} (passed : s.writeTests false false = none) :
    s.storeProtect body = State.taken .nothing { s with store := { s.store with
      operation := some (Operation.started (.protect (BitVec.ofNat 16 (numberAt body 0 2))) .programming s.tagInHand
        s.store) } } := by
  rw [State.storeProtect, (State.writeTests_none passed).1]
  simp only [StoreState.accept_eq]
  rfl

/-- R153. -/
theorem State.storeCommit_area {body : List Byte} (area : numberAt body 0 1 = i.val + 1) :
    (∀ r, s.commitRefusal i = some r → s.storeCommit body = s.refuse r) ∧
    (s.commitRefusal i = none → s.storeCommit body = State.taken (.tag s.tagInHand) { s with store := { s.store with
      directory := s.store.directory.set i .busy
      operation := some (Operation.started (.commit i) .erasing s.tagInHand s.store) } }) := by
  rw [State.storeCommit, area, areaOf_val]
  dsimp only
  refine ⟨fun r refused => ?_, fun passed => ?_⟩
  · rw [refused]
  · rw [passed]
    simp only [StoreState.accept_eq]
    rfl

end Requests

/-! ## The replies -/

theorem State.taken_taken {kind : RequestKind} (h : kind ≠ .reset) (tag : Byte) (r : Result) (s : State) :
    (s.updLine (LineState.take kind.byte tag)).taken r = s.withTaken kind tag r :=
  congrArg (fun l => { s with line := l })
    (LineState.place_take (RequestKind.reply_not_resetReply h tag (.taken r)) kind.byte tag s.line)

theorem Event.run_taken {kind : RequestKind} {tag : Byte} {body : List Byte} {s t : State} {rule : State → State}
    {r : Result} (h : s.handles kind tag body) (notReset : kind ≠ .reset) (fits : kind.bodyFits body = true)
    (after : t.between)
    (answers : rule (s.updLine (LineState.take kind.byte tag)) = (t.updLine (LineState.take kind.byte tag)).taken r) :
    Event.run s (State.request kind tag body true rule) = .next (t.withTaken kind tag r) := by
  rw [Event.run_handled h fits, answers, State.taken_taken notReset]
  exact congrArg Host.Outcome.next (State.withReply_ended after _ _ _)

theorem areaOf_zero : areaOf 0 = none := rfl

theorem areaOf_outside {n : Nat} (outside : n = 0 ∨ 16 < n) : areaOf n = none := by
  rcases outside with rfl | above
  · exact areaOf_zero
  · exact areaOf_above above

theorem State.storeErase_outside {n : Byte} (outside : n.toNat = 0 ∨ 16 < n.toNat) (one : n.toNat ≠ 255) (t : State) :
    t.storeErase [n] = t.refuse .badValue := by
  rw [State.storeErase, numberAt_head]
  rw [if_neg one, areaOf_outside outside]

theorem State.storeErase_area {n : Byte} {i : Fin 16} (area : n.toNat = i.val + 1) (t : State) :
    t.storeErase [n] = t.eraseOne i := by
  rw [State.storeErase, numberAt_head]
  rw [if_neg (by omega), area, areaOf_val]

theorem State.storeErase_all {n : Byte} (all : n.toNat = 255) (t : State) : t.storeErase [n] = t.eraseAll := by
  rw [State.storeErase, numberAt_head]
  exact if_pos all

/-- Settles O52. -/
theorem writeRequestsAreTestedInOrder : Obligations.WriteRequestsAreTestedInOrder := by
  intro tag n m s loadsFrom fromAny
  have loads (i : Fin 16) : s.store.loading i = loadsFrom i := StoreState.loading_eq s.store i
  have any : s.store.loadingAny = fromAny := StoreState.loadingAny_eq s.store
  refine ⟨?commit, ?erase, ?protect⟩
  case commit =>
    intro h c
    refine ⟨fun outside => ?_, fun i area => ?_⟩
    · refine Event.run_refused h (by decide) rfl ?_
      rw [State.storeCommit, numberAt_head, areaOf_outside outside]
    · have first : numberAt [n] 0 1 = i.val + 1 := (numberAt_head n []).trans area
      obtain ⟨refuses, accepts⟩ := State.storeCommit_area (s := s.updLine (LineState.take RequestKind.storeCommit.byte tag))
        first
      rw [← loads]
      refine ⟨fun r refused => Event.run_refused h (by decide) rfl (refuses r (State.commitRefusal_some refused)),
        fun passed => ?_⟩
      have judged := State.commitRefusal_passed (s := s.updLine (LineState.take RequestKind.storeCommit.byte tag)) passed
      refine ⟨fun fails => ?_, fun passes => ?_⟩
      · exact Event.run_refused h (by decide) rfl
          (refuses _ (judged.trans (if_neg (by exact ne_true_of_eq_false fails))))
      · exact Event.run_taken (t := { s with store := { s.store with
            directory := s.store.directory.set i .busy
            operation := some (Operation.started (.commit i) .erasing tag s.store) } }) h (by decide) rfl h.1.1
          (accepts (judged.trans (if_pos (by exact passes))))
  case erase =>
    intro h c
    refine ⟨fun outside => ?_, fun i area => ⟨fun r refused => ?_, fun passed => ?_⟩, fun all =>
      ⟨fun r refused => ?_, fun passed => ?_⟩⟩
    · exact Event.run_refused h (by decide) rfl (State.storeErase_outside (by omega) (by omega) _)
    · rw [← loads] at refused
      exact Event.run_refused h (by decide) rfl
        ((State.storeErase_area area _).trans (State.eraseOne_refused (by exact refused)))
    · rw [← loads] at passed
      exact Event.run_taken (t := { s with store := { s.store with
          directory := s.store.directory.set i .busy
          operation := some (Operation.started (.erase i) .erasing tag s.store) } }) h (by decide) rfl h.1.1
        ((State.storeErase_area area _).trans (State.eraseOne_accepted (by exact passed)))
    · rw [← any] at refused
      exact Event.run_refused h (by decide) rfl
        ((State.storeErase_all all _).trans (State.eraseAll_refused (by exact refused)))
    · rw [← any] at passed
      exact Event.run_taken (t := { s with store := { s.store with
          directory := Table.fill 16 .busy
          operation := some (Operation.started (.eraseAll 0) .erasing tag s.store) } }) h (by decide) rfl h.1.1
        ((State.storeErase_all all _).trans (State.eraseAll_accepted (by exact passed)))
  case protect =>
    intro h c
    refine ⟨fun r refused => ?_, fun passed => ?_⟩
    · exact Event.run_refused h (by decide) rfl (State.storeProtect_refused (by exact refused))
    · have set : numberAt [n, m] 0 2 = le2 n m := numberAt_two (Nat.le_refl 2)
      have accepts := State.storeProtect_accepted (s := s.updLine (LineState.take RequestKind.storeProtect.byte tag))
        (body := [n, m]) passed
      rw [set] at accepts
      exact Event.run_taken (t := { s with store := { s.store with
          operation := some (Operation.started (.protect (BitVec.ofNat 16 (le2 n m))) .programming tag s.store) } })
        h (by decide) rfl h.1.1 accepts

end Sys2Proof.Machine

/-! PROOFS. The phases of a background operation (R153 to R155) and the reads that claim the array (R156, R159). -/

namespace Sys2Proof.Machine

/-! ## The end of a phase -/

theorem StoreState.running_of {t : StoreState} {o : Operation} (holds : t.operation = some o) (begun : o.begun = true)
    (going : o.suspension ≠ .suspended) : t.running o.phase = some o := by
  rw [StoreState.running, holds]
  exact if_pos ⟨begun, going, rfl⟩

theorem OperationResult.ofBool_eq (b : Bool) : OperationResult.ofBool b = if b then .ok else .failed := rfl

/-- R154: the line after an erased area was tested. -/
def State.toldErased (whole : Bool) (s : State) : LineState :=
  if whole then s.line else s.line.raise .storeError

/-- R154: the array with an area erased and tested. -/
def StoreState.withErased (i : Fin 16) (mem : Memory) (t : StoreState) : StoreState :=
  { t with
    areas := t.areas.set i { mem := mem, disturbed := none }
    directory := t.directory.set i (if mem.cells.all fun c => c.2 == 255 then .empty else .invalid) }

theorem State.testErased_of {i : Fin 16} {e : DirEntry} {s : State} (entry : s.store.erasedEntry i = e) :
    s.testErased i = if e = .empty then s.updStore (StoreState.putEntry i e)
      else (s.updStore (StoreState.putEntry i e)).raise .storeError := by
  subst entry
  rfl

/-- R154: the test at the end of an area's erase. -/
theorem State.testErased_eq (i : Fin 16) (mem : Memory) (s : State) :
    (s.updStore (StoreState.putArea i mem)).testErased i = { s with
      store := s.store.withErased i mem
      line := s.toldErased (mem.cells.all fun c => c.2 == 255) } := by
  have area : (s.store.putArea i mem).areas.get i = { mem := mem, disturbed := none } :=
    (Table.get_set _ _ _ _).trans (if_pos rfl)
  have entry : (s.store.putArea i mem).erasedEntry i =
      if mem.cells.all fun c => c.2 == 255 then .empty else .invalid := by
    rw [StoreState.erasedEntry, area]
    rfl
  rw [State.testErased_of (s := s.updStore (StoreState.putArea i mem)) entry, State.toldErased, StoreState.withErased]
  cases mem.cells.all fun c => c.2 == 255 with
  | true => rfl
  | false => rfl

theorem StoreState.withErased_entry (i : Fin 16) (mem : Memory) (t : StoreState) :
    (t.withErased i mem).entry i = if mem.cells.all fun c => c.2 == 255 then .empty else .invalid :=
  (Table.get_set _ _ _ _).trans (if_pos rfl)

theorem StoreState.withErased_empty (i : Fin 16) (mem : Memory) (t : StoreState) :
    decide ((t.withErased i mem).entry i = .empty) = mem.cells.all fun c => c.2 == 255 := by
  rw [StoreState.withErased_entry]
  cases mem.cells.all fun c => c.2 == 255 <;> rfl

section Ends

variable {s : State} {o : Operation} (holds : s.store.operation = some o) (begun : o.begun = true)
  (going : o.suspension ≠ .suspended)
include holds begun going

theorem State.erasingEnded_eq {i : Fin 16} (phase : o.phase = .erasing) (area : o.kind.erases = some i)
    (cells : List Host.Cell) :
    s.erasingEnded cells = (s.updStore (StoreState.putArea i (Memory.erased.overlay cells))).afterErase o := by
  have running := StoreState.running_of holds begun going
  rw [phase] at running
  rw [State.erasingEnded, running]
  dsimp only
  rw [area]

theorem State.programmingEnded_commit {i : Fin 16} (phase : o.phase = .programming) (kind : o.kind = .commit i)
    (cells : List Host.Cell) :
    s.programmingEnded cells = { s with store := { s.store with
      areas := s.store.areas.set i
        { mem := (((s.store.areas.get i).mem).writeRun 0 (s.store.staging.readRun 0 1609)).overlay cells
          disturbed := none }
      operation := some { o with phase := .verifying } } } := by
  have running := StoreState.running_of holds begun going
  rw [phase] at running
  rw [State.programmingEnded, running]
  dsimp only
  rw [kind]
  rfl

theorem State.programmingEnded_protect {p : BitVec 16} (phase : o.phase = .programming) (kind : o.kind = .protect p)
    (cells : List Host.Cell) :
    s.programmingEnded cells =
      (s.updStore fun t => { t with control := .good p, protectSet := p }).endOperation o.tag .ok := by
  have running := StoreState.running_of holds begun going
  rw [phase] at running
  rw [State.programmingEnded, running]
  dsimp only
  rw [kind]

theorem State.verifyingEnded_eq {i : Fin 16} (phase : o.phase = .verifying) (kind : o.kind = .commit i) :
    s.verifyingEnded =
      if s.store.verifies i then
        (s.updStore fun t => t.putEntry i (.valid (recordHeader (t.areas.get i).record))).endOperation o.tag .ok
      else ((s.updStore (StoreState.putEntry i .invalid)).raise .storeError).endOperation o.tag .failed := by
  have running := StoreState.running_of holds begun going
  rw [phase] at running
  rw [State.verifyingEnded, running]
  dsimp only
  rw [kind]

end Ends

theorem StoreState.verifies_iff (t : StoreState) (i : Fin 16) :
    t.verifies i = true ↔
      (t.areas.get i).mem.readRun 0 1609 = t.staging.readRun 0 1609 ∧
        recordPasses ((t.areas.get i).mem.readRun 0 1609) (i.val + 1) = true := by
  rw [StoreState.verifies, Bool.and_eq_true, decide_eq_true_eq]
  rfl

section AfterErase

variable {o : Operation} {i : Fin 16} (s : State) (mem : Memory)

theorem State.afterErase_commit (kind : o.kind = .commit i) :
    (s.updStore (StoreState.putArea i mem)).afterErase o = { s with store := { s.store with
      areas := s.store.areas.set i { mem := mem, disturbed := none }
      operation := some { o with phase := .programming } } } := by
  rw [State.afterErase, kind]
  rfl

theorem State.afterErase_erase (kind : o.kind = .erase i) :
    (s.updStore (StoreState.putArea i mem)).afterErase o =
      State.endOperation o.tag (if mem.cells.all fun c => c.2 == 255 then .ok else .failed) { s with
        store := s.store.withErased i mem
        line := s.toldErased (mem.cells.all fun c => c.2 == 255) } := by
  rw [State.afterErase, kind]
  dsimp only
  rw [State.testErased_eq]
  dsimp only
  rw [StoreState.withErased_empty, OperationResult.ofBool_eq]

theorem State.afterErase_all (kind : o.kind = .eraseAll i) (more : i.val + 1 < 16) :
    (s.updStore (StoreState.putArea i mem)).afterErase o = { s with
      store := { s.store.withErased i mem with operation := some { o with kind := .eraseAll ⟨i.val + 1, more⟩ } }
      line := s.toldErased (mem.cells.all fun c => c.2 == 255) } := by
  rw [State.afterErase, kind]
  dsimp only
  rw [State.testErased_eq, dif_pos more]
  rfl

theorem State.afterErase_last (kind : o.kind = .eraseAll 15) :
    (s.updStore (StoreState.putArea 15 mem)).afterErase o =
      State.endOperation o.tag
        (if decide (∀ i : Fin 16, (s.store.withErased 15 mem).directory.get i = .empty) then .ok else .failed)
        { s with
          store := s.store.withErased 15 mem
          line := s.toldErased (mem.cells.all fun c => c.2 == 255) } := by
  have every : ((s.store.withErased 15 mem).directory.all fun e => decide (e = .empty)) =
      decide (∀ i : Fin 16, (s.store.withErased 15 mem).directory.get i = .empty) := by
    rw [Bool.eq_iff_iff, Table.all_iff, decide_eq_true_eq]
    exact forall_congr' fun i => decide_eq_true_iff
  rw [State.afterErase, kind]
  dsimp only
  rw [State.testErased_eq, dif_neg (by decide)]
  dsimp only
  rw [every, OperationResult.ofBool_eq]

end AfterErase

/-- Settles O53. -/
theorem phasesOfTheOperation : Obligations.PhasesOfTheOperation := by
  intro cells o s h holds begun going set clean whole judged told
  have erases : exec (.erasingEnd cells) s = .next (s.erasingEnded cells).ended := exec_ordinary h nofun nofun
  have programs : exec (.programmingEnd cells) s = .next (s.programmingEnded cells).ended := exec_ordinary h nofun nofun
  have verifies : exec .verifyingEnd s = .next s.verifyingEnded.ended := exec_ordinary h nofun nofun
  refine ⟨fun phase => ⟨fun i kind => ?_, fun i kind => ?_, fun i more kind => ?_, fun kind => ?_⟩,
    fun phase => ⟨fun i kind => ?_, fun p kind => ?_⟩, fun phase i kind => ⟨fun good => ?_, fun bad => ?_⟩⟩
  · rw [erases, State.erasingEnded_eq holds begun going phase (by rw [kind]; rfl), State.afterErase_commit _ _ kind,
      State.ended_of_no_notice (by exact h.2)]
  · rw [erases, State.erasingEnded_eq holds begun going phase (by rw [kind]; rfl), State.afterErase_erase _ _ kind,
      State.endOperation_ended]
    rfl
  · rw [erases, State.erasingEnded_eq holds begun going phase (by rw [kind]; rfl), State.afterErase_all _ _ kind more]
    rfl
  · intro all
    rw [erases, State.erasingEnded_eq holds begun going phase (by rw [kind]; rfl), State.afterErase_last _ _ kind,
      State.endOperation_ended]
    rfl
  · rw [programs, State.programmingEnded_commit holds begun going phase kind, State.ended_of_no_notice (by exact h.2)]
  · rw [programs, State.programmingEnded_protect holds begun going phase kind, State.endOperation_ended]
    rfl
  · rw [verifies, State.verifyingEnded_eq holds begun going phase kind, if_pos ((StoreState.verifies_iff _ _).mpr good),
      State.endOperation_ended]
    rfl
  · rw [verifies, State.verifyingEnded_eq holds begun going phase kind,
      if_neg (fun passes => bad ((StoreState.verifies_iff _ _).mp passes)), State.endOperation_ended]
    rfl

end Sys2Proof.Machine

/-! PROOFS. The reads that claim the array and the suspension of an operation (R156, R159). -/

namespace Sys2Proof.Machine

/-! ## STORE_READ (R156) -/

section Read

variable {n o0 o1 n0 n1 : Byte}

theorem State.storeRead_outside (outside : n.toNat = 0 ∨ 16 < n.toNat) (t : State) :
    t.storeRead [n, o0, o1, n0, n1] = t.refuse .badValue := by
  rw [State.storeRead, numberAt_head, areaOf_outside outside]

theorem State.storeRead_area {i : Fin 16} (area : n.toNat = i.val + 1) (t : State) :
    t.storeRead [n, o0, o1, n0, n1] =
      if ¬ (1 ≤ le2 n0 n1 ∧ le2 n0 n1 ≤ 256 ∧ le2 o0 o1 + le2 n0 n1 ≤ 4096) then t.refuse .badValue
      else if t.store.directory.get i = .busy then t.refuse .busy
      else (t.updStore (StoreState.claim .storeRead)).updLine
        (LineState.hold (.read i (le2 o0 o1) (le2 n0 n1))) := by
  have offset : numberAt [n, o0, o1, n0, n1] 1 2 = le2 o0 o1 := numberAt_two (by simp)
  have length : numberAt [n, o0, o1, n0, n1] 3 2 = le2 n0 n1 := numberAt_two (by simp)
  rw [State.storeRead, numberAt_head, offset, length, area, areaOf_val]
  exact if_congr (by omega) rfl rfl

end Read

/-! ## The end of a read (R156, R159) -/

theorem Area.readBytes_length (a : Area) (offset n : Nat) : (a.readBytes offset n).length = n := by
  rw [Area.readBytes, List.length_map, List.length_range]

theorem Area.readBytes_getElem? {a : Area} (calm : a.disturbed = none) (offset : Nat) {n k : Nat} (inside : k < n) :
    (a.readBytes offset n)[k]? = some (a.mem.read (offset + k)) := by
  rw [Area.readBytes, List.getElem?_map, List.getElem?_range inside, Option.map_some, Area.byteAt, calm]

theorem LineState.heldRead_of {l : LineState} {kind tag : Byte} {i : Fin 16} {offset n : Nat}
    (inHand : l.inHand = some { kind := kind, tag := tag, wait := .read i offset n }) :
    l.heldRead = some (i, offset, n) := by
  rw [LineState.heldRead, inHand]

/-- R163, R164: the reply of the STORE_READ in hand, placed with room in the queue. -/
theorem State.done_storeRead {t : State} {tag : Byte} {w : HandWait} (r : Result)
    (inHand : t.line.inHand = some { kind := 0x22, tag := tag, wait := w }) (room : t.line.outbound.length < 16) :
    t.done r = { t with line := { t.line with
      inHand := none
      outbound := t.line.outbound ++ [.reply 0xA2 tag (.done r)] } } := by
  have placed : LineState.answer (.done r) t.line = { t.line with
      inHand := none
      outbound := t.line.outbound ++ [.reply 0xA2 tag (.done r)] } := by
    rw [LineState.answer, inHand]
    exact if_pos room
  rw [State.done, State.answer, State.updLine, placed]

theorem State.storeReadEnded_eq {s : State} {tag : Byte} {i : Fin 16} {offset n : Nat}
    (serving : s.store.serving = some .storeRead)
    (inHand : s.line.inHand = some { kind := 0x22, tag := tag, wait := .read i offset n }) :
    s.storeReadEnded =
      (s.done (.data ((s.store.areas.get i).readBytes offset n))).updStore StoreState.serveNext := by
  rw [State.storeReadEnded, serving, LineState.heldRead_of inHand]

/-! ## The suspension (R159) -/

theorem StoreState.suspended_unasked {t : StoreState} {o : Operation} (holds : t.operation = some o)
    (unasked : o.suspension ≠ .asked) : t.suspended = t := by
  rw [StoreState.suspended, holds]
  exact if_neg unasked

theorem StoreState.suspended_asked {t : StoreState} {o : Operation} (holds : t.operation = some o)
    (asked : o.suspension = .asked) (free : t.serving = none) :
    t.suspended = { t with
      operation := some { o with suspension := .suspended, count := o.count + 1 }
      serving := t.waiting.head?
      waiting := t.waiting.tail } := by
  rw [StoreState.suspended, holds]
  refine (if_pos asked).trans ?_
  rw [StoreState.serveAfterOperation_eq]
  dsimp only
  rw [if_pos free, if_pos free]

/-- Settles O54. -/
theorem readsClaimTheArray : Obligations.ReadsClaimTheArray := by
  refine ⟨?_, ?_, ?_⟩
  · intro tag n o0 o1 n0 n1 s c offset length legal h
    refine ⟨fun outside => ?_, fun i area fine => ⟨fun busy => ?_, fun free => ?_⟩⟩
    · by_cases there : n.toNat = 0 ∨ 16 < n.toNat
      · exact Event.run_refused h (by decide) rfl (State.storeRead_outside there _)
      · have illegal : ¬ legal := by tauto
        exact Event.run_refused h (by decide) rfl
          ((State.storeRead_area (i := ⟨n.toNat - 1, by omega⟩) (by dsimp only; omega) _).trans (if_pos illegal))
    · exact Event.run_refused h (by decide) rfl
        ((State.storeRead_area area _).trans ((if_neg (not_not.mpr fine)).trans (if_pos busy)))
    · have rule := (State.storeRead_area (n := n) (o0 := o0) (o1 := o1) (n0 := n0) (n1 := n1) area
        (s.updLine (LineState.take RequestKind.storeRead.byte tag))).trans
          ((if_neg (not_not.mpr fine)).trans (if_neg free))
      have event : exec c s = _ := Event.run_handled h rfl (State.storeRead [n, o0, o1, n0, n1])
      rw [event, rule, ← StoreState.claim_eq]
      exact congrArg Host.Outcome.next (State.ended_of_no_notice h.1.1.2)
  · intro tag i offset length s h serving room inHand
    have event : exec .storeReadEnd s = .next s.storeReadEnded.ended := exec_ordinary h nofun nofun
    refine ⟨(s.store.areas.get i).readBytes offset length, ?_, Area.readBytes_length _ _ _,
      fun calm k inside => Area.readBytes_getElem? calm offset inside⟩
    rw [event, State.storeReadEnded_eq serving inHand, State.done_storeRead _ inHand room, ← StoreState.serveNext_eq]
    exact congrArg Host.Outcome.next (State.ended_of_no_notice h.2)
  · intro o s h holds
    have event : exec .suspensionPoint s = .next (s.updStore StoreState.suspended).ended := exec_ordinary h nofun nofun
    refine ⟨fun unasked => ?_, fun asked free => ?_⟩
    · rw [event, State.updStore, StoreState.suspended_unasked holds unasked, State.ended_of_no_notice (by exact h.2)]
    · rw [event, State.updStore, StoreState.suspended_asked holds asked free, State.ended_of_no_notice (by exact h.2)]

end Sys2Proof.Machine
